-- ==== Sys2Proof/Word.lean ====
section
/-! DEFINITION. The word types of the hub: bytes as the host ports carry them (R171) and 32-bit words as the cell pool and
the register window hold them (R16, R188). -/

namespace Sys2Proof

/-- One byte of a frame, of a message or of a payload. -/
abbrev Byte := BitVec 8

/-- One 32-bit word: a word of a cell (R16) or a register (R188). -/
abbrev Word := BitVec 32

end Sys2Proof
end

