-- ==== Sys2Proof/Config.lean ====
section
/-! DEFINITION. The fixed sizes of the hub (00_scope 5.1) and the values that the manual leaves open, as constants with no
body. -/

namespace Sys2Proof

/-- How the cell pool classes a word against its check code (R16). -/
inductive WordClass where
  | clean
  | correctable
  | uncorrectable
deriving DecidableEq, Repr, Inhabited

namespace Config

/-- Entries per inbound queue (R77). -/
def queueDepth : Nat := 32

/-- Records per notice queue (R110). -/
def noticeDepth : Nat := 16

/-- Cells in the pool (R16). -/
def cellCount : Nat := 512

/-- The lease after a grant or a renewal, in millisecond marks (R152, R153). -/
def claimLease : Nat := 2000

/-- The largest value of a meter (R163). -/
def meterMax : Nat := 4294967295

/-- The fixed value of the HUB_ID register (R188). -/
def hubId : Word := 0x0A450401#32

/-- FREE VALUE (log entry 8). The class that the check code shows for a word in which three or more stored bits disagree:
"any of the three classes" (R16). Arguments: the stored word, the word its check code was computed for, and the disturbed
bits of the check code. -/
opaque heavyClass : Word → Word → BitVec 7 → WordClass

/-- FREE VALUE (log entry 8). The one bit that the correction changes in a word with three or more disagreeing bits that
shows as correctable (R16): bits 0 to 31 of the word, or 32 to 38 of its check code. -/
opaque heavyChangedBit : Word → Word → BitVec 7 → Fin 39

end Config

end Sys2Proof
end

