-- ==== Sys2Proof/Syntax.lean ====
section
/-! DEFINITION. Ports and lanes, and the commands of the hub: one constructor for each row of spec/opcode_table.json. Each
row is one whole, indivisible event (spec/95_what_each_step_holds.md). -/

namespace Sys2Proof

/-- The four host ports (R171). -/
inductive Port where
  | p0
  | p1
  | p2
  | p3
deriving DecidableEq, Repr, Inhabited

/-- All ports in ascending order. A set of ports is a list without repeats in this order. -/
def Port.all : List Port := [.p0, .p1, .p2, .p3]

/-- The port's number, which is also its encoding in one byte (11.7). -/
def Port.toNat : Port → Nat
  | .p0 => 0
  | .p1 => 1
  | .p2 => 2
  | .p3 => 3

/-- One value for each port. -/
structure PerPort (α : Type) where
  p0 : α
  p1 : α
  p2 : α
  p3 : α
deriving DecidableEq, Repr

/-- The value of one port. -/
def PerPort.get {α : Type} (v : PerPort α) : Port → α
  | .p0 => v.p0
  | .p1 => v.p1
  | .p2 => v.p2
  | .p3 => v.p3

/-- Replace the value of one port. -/
def PerPort.set {α : Type} (v : PerPort α) (p : Port) (x : α) : PerPort α :=
  match p with
  | .p0 => { v with p0 := x }
  | .p1 => { v with p1 := x }
  | .p2 => { v with p2 := x }
  | .p3 => { v with p3 := x }

/-- Change every port's value, knowing the port. -/
def PerPort.map {α : Type} (f : Port → α → α) (v : PerPort α) : PerPort α :=
  { p0 := f .p0 v.p0, p1 := f .p1 v.p1, p2 := f .p2 v.p2, p3 := f .p3 v.p3 }

/-- The same value for every port. -/
def PerPort.all {α : Type} (x : α) : PerPort α := { p0 := x, p1 := x, p2 := x, p3 := x }

/-- The two lanes (00_scope 1.1). -/
inductive Lane where
  | urgent
  | routine
deriving DecidableEq, Repr, Inhabited

/-- One value for each lane. -/
structure PerLane (α : Type) where
  urgent : α
  routine : α
deriving DecidableEq, Repr

/-- The value of one lane. -/
def PerLane.get {α : Type} (v : PerLane α) : Lane → α
  | .urgent => v.urgent
  | .routine => v.routine

/-- Replace the value of one lane. -/
def PerLane.set {α : Type} (v : PerLane α) (l : Lane) (x : α) : PerLane α :=
  match l with
  | .urgent => { v with urgent := x }
  | .routine => { v with routine := x }

/-- The index of a descriptor in the message table (R1). -/
abbrev DescIndex := Fin 128

/-- The index of a cell in the pool (R16). -/
abbrev CellIndex := Fin 512

/-- The commands of the hub. A row that a host's command frame asks for carries the port and the argument bytes of the
frame (R174, R186). A row that a frame of another kind stands for carries what the frame carries. A row that is the hub's
own event names the port, queue or descriptor it is taken at. -/
inductive Instr where
  /-- ATTACH (R131). -/
  | attach (p : Port) (args : List Byte)
  /-- DETACH (R133). -/
  | detach (p : Port) (args : List Byte)
  /-- FORCE_DETACH (R134): target port. -/
  | forceDetach (p : Port) (args : List Byte)
  /-- OPEN (R41): lane, length (2), destination set, mode, tag (2). -/
  | openMessage (p : Port) (args : List Byte)
  /-- WRITE (R47): handle (2), offset, 1 to 64 data bytes. -/
  | write (p : Port) (args : List Byte)
  /-- ABANDON (R51): handle (2). -/
  | abandon (p : Port) (args : List Byte)
  /-- POST (R56): handle (2). -/
  | post (p : Port) (args : List Byte)
  /-- PEEK (R86): lane selection. -/
  | peek (p : Port) (args : List Byte)
  /-- READ (R90): handle (2), offset, count. -/
  | read (p : Port) (args : List Byte)
  /-- DONE (R92): handle (2). -/
  | done (p : Port) (args : List Byte)
  /-- NOTICES (R116): max. -/
  | notices (p : Port) (args : List Byte)
  /-- ACCOUNT (R38). -/
  | account (p : Port) (args : List Byte)
  /-- METERS (R169): zero. -/
  | meters (p : Port) (args : List Byte)
  /-- CLAIM (R152). -/
  | claim (p : Port) (args : List Byte)
  /-- RELEASE (R154). -/
  | release (p : Port) (args : List Byte)
  /-- CONFIGURE (R161): target port, field, value (2). -/
  | configure (p : Port) (args : List Byte)
  /-- CONFIG_READ (R150): target port. -/
  | configRead (p : Port) (args : List Byte)
  /-- HUB_RESET (R144). -/
  | hubReset (p : Port) (args : List Byte)
  /-- COMMAND_FRAME (R175): the complete bytes of the frame, byte 0 first, the CRC byte among them. -/
  | commandFrame (p : Port) (bytes : List Byte)
  /-- SHORT_FRAME (R176): the complete bytes of a command frame cut before its CRC byte. No byte stands for a chip-select
  period that ends without one, which is no frame (R171, R176, log entry 5). -/
  | shortFrame (p : Port) (bytes : List Byte)
  /-- FETCH (R180): the number of bytes the host clocks, byte 0 among them. -/
  | fetch (p : Port) (clocked : Nat)
  /-- REG_READ_FRAME_CUT (R182): a register read frame of which byte 0 alone completes. -/
  | regReadFrameCut (p : Port)
  /-- REG_WRITE (R183): the complete bytes of a register frame, byte 0 first. Byte 0 is 0x82; with 0x81 they are those of a
  register read frame (R171, R182, log entry 16). -/
  | regWrite (p : Port) (bytes : List Byte)
  /-- EVENT_FLAGS (R121): a good register write frame with these four data bytes. -/
  | eventFlags (p : Port) (value : Word)
  /-- EVENT_ENABLE (R122): a good register write frame with these four data bytes. -/
  | eventEnable (p : Port) (value : Word)
  /-- DEADLINE_WRITE (R101): a good register write frame of DEADLINE_URGENT or DEADLINE_ROUTINE. -/
  | deadlineWrite (p : Port) (lane : Lane) (value : Word)
  /-- METER_THRESHOLD (R167): a good register write frame with these four data bytes. -/
  | meterThreshold (p : Port) (value : Word)
  /-- POWER_ON_RESET (R147). -/
  | powerOnReset
  /-- MILLISECOND_MARK (R99). -/
  | millisecondMark
  /-- EXAMINATION (R102) of one inbound queue. -/
  | examination (p : Port) (lane : Lane)
  /-- EXPIRY (R103) of the head entry of one inbound queue. -/
  | expiry (p : Port) (lane : Lane)
  /-- LEASE_DECREMENT (R155). -/
  | leaseDecrement
  /-- CLAIM_EXPIRY (R155). -/
  | claimExpiry
  /-- SAMPLING_EVENT (R164) of one port. -/
  | samplingEvent (p : Port)
  /-- REFILL (R66) of one port's token bucket. -/
  | refill (p : Port)
  /-- RELEASE_OF_HELD_POST (R71) of one port. -/
  | releaseOfHeldPost (p : Port)
  /-- DETACH_ABANDONMENT (R136) of one message of a detaching port. -/
  | detachAbandonment (p : Port) (index : DescIndex)
  /-- FLUSH (R137) of the head entry of one queue of a detaching port. -/
  | flush (p : Port) (lane : Lane)
  /-- NOTICE_QUEUE_EMPTYING (R138) of a detaching port. -/
  | noticeQueueEmptying (p : Port)
  /-- WAITER_REMOVAL (R138) of a detaching port. -/
  | waiterRemoval (p : Port)
  /-- DETACH_COMPLETION (R139) of a detaching port. -/
  | detachCompletion (p : Port)
  /-- STORAGE_UPSET (R16): the cell, the word of the cell, and the bits disturbed in the word and in its check code. -/
  | storageUpset (cell : CellIndex) (word : Fin 8) (wordBits : Word) (codeBits : BitVec 7)
  /-- UNKNOWN_COMMAND_CODE (R184): a code that names no command, and the argument bytes of its frame. -/
  | unknownCommandCode (p : Port) (code : Byte) (args : List Byte)
  /-- CS_N_FALL (R172): the fall of CS_N that begins a frame. -/
  | csNFall (p : Port)
deriving DecidableEq, Repr

end Sys2Proof
end

