-- ==== Sys2Proof/WellFormed.lean ====
section
/-! DEFINITION. Which commands are well formed: what bytes a host's frame of each kind can carry (R171, R174, R176, R183). -/

namespace Sys2Proof

/-- Byte 0 of a command frame is any value but those of a FETCH, REG_READ or REG_WRITE frame (R171). -/
def isCommandByte (b : Byte) : Bool := !(b == 0x80#8 || b == 0x81#8 || b == 0x82#8)

/-- The codes that name a command (R186). -/
def commandCodes : List Byte :=
  [0x01#8, 0x02#8, 0x03#8, 0x10#8, 0x11#8, 0x12#8, 0x13#8, 0x20#8, 0x21#8, 0x22#8, 0x23#8, 0x30#8, 0x31#8, 0x40#8,
   0x41#8, 0x42#8, 0x43#8, 0x4F#8]

/-- A command frame's bytes reach its CRC byte, byte n + 2 (R174). -/
def isCompleteFrame (bytes : List Byte) : Bool :=
  match bytes with
  | code :: n :: rest => isCommandByte code && decide (n.toNat + 1 ≤ rest.length)
  | _ => false

/-- A command frame with at least one complete byte that is cut before its CRC byte is complete (R176). -/
def isShortFrame (bytes : List Byte) : Bool :=
  match bytes with
  | [] => false
  | [code] => isCommandByte code
  | code :: n :: rest => isCommandByte code && decide (rest.length ≤ n.toNat)

/-- The length byte of a command frame counts at most 255 argument bytes (R174). -/
def argsFit (args : List Byte) : Bool := decide (args.length ≤ 255)

/-- The commands that some frame or some event of the hub spells. -/
def Instr.wellFormed : Instr → Bool
  | .attach _ args => argsFit args
  | .detach _ args => argsFit args
  | .forceDetach _ args => argsFit args
  | .openMessage _ args => argsFit args
  | .write _ args => argsFit args
  | .abandon _ args => argsFit args
  | .post _ args => argsFit args
  | .peek _ args => argsFit args
  | .read _ args => argsFit args
  | .done _ args => argsFit args
  | .notices _ args => argsFit args
  | .account _ args => argsFit args
  | .meters _ args => argsFit args
  | .claim _ args => argsFit args
  | .release _ args => argsFit args
  | .configure _ args => argsFit args
  | .configRead _ args => argsFit args
  | .hubReset _ args => argsFit args
  | .commandFrame _ bytes => isCompleteFrame bytes
  | .shortFrame _ bytes => bytes.isEmpty || isShortFrame bytes
  | .fetch _ clocked => decide (1 ≤ clocked)
  | .regReadFrameCut _ => true
  | .regWrite _ bytes => bytes.head? == some 0x82#8 || bytes.head? == some 0x81#8
  | .eventFlags _ _ => true
  | .eventEnable _ _ => true
  | .deadlineWrite _ _ _ => true
  | .meterThreshold _ _ => true
  | .powerOnReset => true
  | .millisecondMark => true
  | .examination _ _ => true
  | .expiry _ _ => true
  | .leaseDecrement => true
  | .claimExpiry => true
  | .samplingEvent _ => true
  | .refill _ => true
  | .releaseOfHeldPost _ => true
  | .detachAbandonment _ _ => true
  | .flush _ _ => true
  | .noticeQueueEmptying _ => true
  | .waiterRemoval _ => true
  | .detachCompletion _ => true
  | .storageUpset _ _ _ _ => true
  | .unknownCommandCode _ code args => isCommandByte code && !commandCodes.contains code && argsFit args
  | .csNFall _ => true

end Sys2Proof
end

