-- ==== Sys2Proof/Machine/State.lean ====
section
/-! DEFINITION. The state of the hub, as plain data, and its value after power-on reset (R147). -/

namespace Sys2Proof
namespace Machine

/-! ## Messages (chapter 1) -/

/-- The delivery mode of a message (R2). -/
inductive Mode where
  | all
  | best
deriving DecidableEq, Repr

/-- How one accepted destination finished with a message (R2, R3). -/
inductive ReaderOutcome where
  | pending
  | consumed
  | expired
  | discarded
deriving DecidableEq, Repr

/-- The name of a message: generation times 128 plus descriptor index (R6). -/
abbrev Handle := BitVec 16

/-- The fields that a descriptor holds while it is OPEN, HELD or LIVE (R2). -/
structure Message where
  source : Port
  sourceEpoch : BitVec 8
  lane : Lane
  mode : Mode
  length : Nat
  chain : List CellIndex
  reservedCharge : Nat
  sharedCharge : Nat
  destinations : List Port
  tag : BitVec 16
  fault : Bool
deriving DecidableEq, Repr

/-- The fields that a descriptor holds only while it is LIVE (R2, R3). -/
structure Delivery where
  accepted : List Port
  refusedOffline : List Port
  refusedFull : List Port
  outcomes : List (Port × ReaderOutcome)
  readers : Nat
  sequence : BitVec 16
deriving DecidableEq, Repr

/-- The state of a descriptor, with the fields present in it (R2, R5). -/
inductive DescState where
  | free
  | opened (m : Message)
  | held (m : Message)
  | live (m : Message) (d : Delivery)
deriving DecidableEq, Repr

/-- One descriptor: its generation is present in every state (R1, R2). -/
structure Descriptor where
  generation : Fin 512
  state : DescState
deriving DecidableEq, Repr

/-! ## Cells (chapter 2) -/

/-- One protected word (R16): the stored bits, the word that the stored check code was computed for, and the bits of the
check code disturbed since. The spec gives the code no layout; its width of 7 bits is PRESUMED (log entry 7, unsafe). -/
structure StoredWord where
  data : Word
  coded : Word
  codeFlips : BitVec 7
deriving DecidableEq, Repr

/-- A word stored with its correct check code (R18, R19). -/
def StoredWord.fresh (w : Word) : StoredWord := { data := w, coded := w, codeFlips := 0#7 }

/-- The stored words that differ from zero with its correct code, by word address 8 x cell + word, addresses rising. -/
abbrev Pool := List (Nat × StoredWord)

/-! ## Notices (chapter 7) -/

/-- Why a delivery step failed (R59). -/
inductive FailReason where
  | queueFull
  | peerOffline
deriving DecidableEq, Repr

/-- A notice record (R113). -/
inductive Notice where
  | returned (handle : Handle) (tag : BitVec 16) (sourceEpoch : BitVec 8) (lane : Lane) (cells : Nat) (fault : Bool)
      (refusedOffline refusedFull : List Port) (outcomes : List (Port × ReaderOutcome))
  | posted (handle : Handle) (tag : BitVec 16) (sequence : BitVec 16) (accepted refusedOffline refusedFull : List Port)
  | postFailed (handle : Handle) (tag : BitVec 16) (reason : FailReason) (refusedOffline refusedFull : List Port)
  | expired (handle : Handle) (tag : BitVec 16) (source : Port) (sequence : BitVec 16) (lane : Lane)
deriving DecidableEq, Repr

/-! ## Ports -/

/-- The result codes (R185). -/
inductive Result where
  | ok
  | held
  | dataFault
  | notAttached
  | detaching
  | noClaim
  | frameCrc
  | badCommand
  | badArgument
  | range
  | staleHandle
  | notOwner
  | wrongState
  | noDescriptor
  | noCredit
  | paced
  | queueFull
  | peerOffline
  | empty
  | claimHeld
  | inUse
  | noResponse
deriving DecidableEq, Repr

/-- A response: a result code and a payload (R177). -/
structure Response where
  result : Result
  payload : List Byte
deriving DecidableEq, Repr

/-- What the port engine keeps of an accepted command frame (R174): the code, the length byte as a number, and the first 72
argument bytes. -/
structure CommandFrame where
  code : Byte
  length : Nat
  args : List Byte
deriving DecidableEq, Repr

/-- The command engine with its response holder (R177). `accepted` and `detachInFlight` are the two ways to be EXECUTING: an
accepted command not yet taken, or a DETACH or FORCE_DETACH of the target in flight. The holder is empty but in `held`. -/
inductive Engine where
  | idle
  | accepted (f : CommandFrame)
  | detachInFlight (target : Port)
  | held (r : Response)
deriving DecidableEq, Repr

/-- The session state (R129). A DETACHING port keeps the port whose command began the detach: its own for DETACH (R133),
the claim holder's for FORCE_DETACH (R134). -/
inductive Session where
  | offline
  | attached
  | detaching (issuer : Port)
deriving DecidableEq, Repr

/-- The chip-select period of a port (R171, R172): none in hand, begun with its captured status byte, or begun before a
power-on reset and lost (R147). -/
inductive ChipSelect where
  | high
  | begun (status : Byte)
  | lost
deriving DecidableEq, Repr

/-- One entry of an inbound queue (R77). -/
structure Entry where
  handle : Handle
  arrival : BitVec 32
deriving DecidableEq, Repr

/-- An inbound queue, oldest entry first (R77), its waiter set (R81), and whether an examination series of it is running
(R102). -/
structure InboundQueue where
  entries : List Entry
  waiters : List Port
  series : Bool
deriving DecidableEq, Repr

/-- The held-post slot when occupied (R70), with the number of releases begun for the message in it and not yet taken
(R71). -/
structure HeldPost where
  handle : Handle
  releases : Nat
deriving DecidableEq, Repr

/-- A configuration record (R148). -/
structure PortConfig where
  reserved : PerLane Nat
  borrowCeiling : Nat
  outstandingCap : Nat
  paceInterval : Nat
  bucketDepth : Nat
deriving DecidableEq, Repr

/-- The seven meters (R163). -/
structure Meters where
  heldCellMs : Nat
  borrowMs : Nat
  posts : Nat
  postedCells : Nat
  refusals : Nat
  consumed : Nat
  expiries : Nat
deriving DecidableEq, Repr

/-- The configuration claim while it is held (R151). -/
structure Claim where
  holder : Port
  lease : Nat
deriving DecidableEq, Repr

/-- Everything that the hub keeps for one port. -/
structure PortState where
  /-- Session state (R129). -/
  session : Session
  /-- Session epoch (R129). -/
  epoch : BitVec 8
  /-- Command engine and response holder (R177). -/
  engine : Engine
  /-- The chip-select period and the captured status byte (R172). -/
  chipSelect : ChipSelect
  /-- The bytes shifted out on MISO in the port's latest frame (R172, R174, R180, R182, R183). -/
  miso : List Byte
  /-- The configuration record (R148). -/
  config : PortConfig
  /-- RU, per lane (R25). -/
  reservedUse : PerLane Nat
  /-- BR (R25). -/
  borrowed : Nat
  /-- The credit-wait marker (R32). -/
  creditWait : Bool
  /-- Tokens (R65). -/
  tokens : Nat
  /-- The interval counter, 0 while stopped (R65). -/
  interval : Nat
  /-- The MODEL's own: the interval counter has reached the end of its count and the refill is not yet taken (R66). -/
  refillDue : Bool
  /-- The post sequence counter (R61). -/
  sequence : BitVec 16
  /-- The held-post slot (R70). -/
  heldPost : Option HeldPost
  /-- The inbound queues, per lane (R77). -/
  inbound : PerLane InboundQueue
  /-- DEADLINE_URGENT and DEADLINE_ROUTINE (R101). -/
  deadline : PerLane (BitVec 16)
  /-- The notice queue, oldest first (R110). -/
  notices : List Notice
  /-- The latched event flags, in the positions of R188; the positions of state flags hold 0 (R119). -/
  latched : BitVec 15
  /-- EVENT_ENABLE (R122). -/
  enables : BitVec 15
  /-- The usage meters (R163). -/
  meters : Meters
  /-- METER_THRESHOLD (R167). -/
  threshold : BitVec 32
  /-- The MODEL's own: sampling events of delivered marks not yet taken (R164). -/
  samplesDue : Nat
deriving DecidableEq, Repr

/-! ## The hub -/

/-- The state of the hub. Plain data. -/
structure State where
  /-- What the hub keeps for each port. -/
  ports : PerPort PortState
  /-- The message table (R1). -/
  table : Vector Descriptor 128
  /-- The words of the cell pool (R16). -/
  pool : Pool
  /-- The free list, head first (R20). -/
  freeList : List CellIndex
  /-- TICK (R98). -/
  tick : BitVec 32
  /-- The MODEL's own: TICK has reached a multiple of 1000 and the mark is not yet delivered (R99). -/
  markDue : Bool
  /-- The configuration claim and its lease, `none` while unheld (R151). -/
  claim : Option Claim
  /-- The MODEL's own: a mark was delivered while the claim was held, and its lease event is not yet taken (R155). It is
  gone with the claim. -/
  leaseDue : Bool
  /-- The input pin REFCLK is running (R98). -/
  refclk : Bool
  /-- The events that wait to be taken, first in, first out. -/
  pending : List Instr
deriving DecidableEq, Repr

/-- Why the model stops. Raised only in states that no run of the hub reaches (log entry 13); SAFE: the model stops and
claims nothing of such a state. -/
inductive Fault where
  /-- Raised by PEEK, READ, DONE, EXAMINATION, EXPIRY and FLUSH: the head entry names no LIVE message under its handle,
  which R91 excludes. SAFE. -/
  | danglingEntry
  /-- Raised by RELEASE_OF_HELD_POST: the held-post slot names no HELD message, which R70 excludes. SAFE. -/
  | lostHeldPost
  /-- Raised by OPEN: the free list is shorter than a granted charge, which R30 excludes. SAFE. -/
  | poolExhausted
  /-- Raised by READ and WRITE: a message's chain is shorter than its length, which R2 excludes. SAFE. -/
  | brokenChain
deriving DecidableEq, Repr

/-- Why the model refuses a command. -/
inductive Refusal where
  /-- Raised by `exec` for a row without a meaning. No row is without one. SAFE. -/
  | notModelled (mnemonic : String)
deriving DecidableEq, Repr

/-! ## Power-on reset -/

/-- The default configuration record (R148). -/
def PortConfig.default : PortConfig :=
  { reserved := { urgent := 16, routine := 32 }, borrowCeiling := 160, outstandingCap := 32, paceInterval := 0
    bucketDepth := 64 }

/-- All meters at 0 (R163). -/
def Meters.zero : Meters :=
  { heldCellMs := 0, borrowMs := 0, posts := 0, postedCells := 0, refusals := 0, consumed := 0, expiries := 0 }

/-- An empty inbound queue with an empty waiter set and no series (R77, R81, R106). -/
def InboundQueue.reset : InboundQueue := { entries := [], waiters := [], series := false }

/-- A port after power-on reset (R147). No chip-select period and no MISO byte is in hand (DESIGN CHOICE, log entry 12). -/
def PortState.reset : PortState :=
  { session := .offline, epoch := 0#8, engine := .idle, chipSelect := .high, miso := [], config := PortConfig.default
    reservedUse := { urgent := 0, routine := 0 }, borrowed := 0, creditWait := false, tokens := 64, interval := 0
    refillDue := false, sequence := 0#16, heldPost := none
    inbound := { urgent := InboundQueue.reset, routine := InboundQueue.reset }
    deadline := { urgent := 0#16, routine := 0#16 }, notices := [], latched := 0#15, enables := 0#15
    meters := Meters.zero, threshold := 0#32, samplesDue := 0 }

/-- All cells in ascending order (R20). -/
def allCells : List CellIndex := List.finRange 512

/-- The hub right after power-on reset (R147). The contents of the cells (log entry 9) and the state of REFCLK (log entry
11) are DESIGN CHOICES, unsafe. -/
def State.reset : State :=
  { ports := PerPort.all PortState.reset
    table := Vector.replicate 128 { generation := 0, state := .free }
    pool := [], freeList := allCells, tick := 0#32, markDue := false, claim := none, leaseDue := false, refclk := true
    pending := [] }

end Machine
end Sys2Proof
end

