-- ==== Sys2Proof/Machine/Flags.lean ====
section
/-! DEFINITION. Event flags, enables, the attention condition and the status byte (chapter 7, R172). The four state flags are
computed from their conditions and not stored (R119, log entry 20). -/

namespace Sys2Proof
namespace Machine

/-- The eleven latched flags (R118). -/
inductive LatchedFlag where
  | noticeLost
  | creditFreed
  | queueSpace
  | configChanged
  | peerChange
  | claimLost
  | meterLimit
  | frameError
  | overrun
  | hubReset
  | detached
deriving DecidableEq, Repr

/-- Flag positions in EVENT_FLAGS and EVENT_ENABLE (R188). -/
def LatchedFlag.bit : LatchedFlag → Nat
  | .noticeLost => 4
  | .creditFreed => 5
  | .queueSpace => 6
  | .configChanged => 7
  | .peerChange => 8
  | .claimLost => 9
  | .meterLimit => 10
  | .frameError => 11
  | .overrun => 12
  | .hubReset => 13
  | .detached => 14

/-- The one bit of a flag's position. -/
def LatchedFlag.mask (f : LatchedFlag) : BitVec 15 := 1#15 <<< f.bit

/-- The positions of the latched flags; positions 0 to 3 are those of the state flags (R188). -/
def latchedPositions : BitVec 15 := 0x7FF0#15

/-- A cause sets its latched flag, whether or not it is set already (R120). -/
def PortState.raise (x : PortState) (f : LatchedFlag) : PortState := { x with latched := x.latched ||| f.mask }

/-- Whether a latched flag is set. -/
def PortState.shows (x : PortState) (f : LatchedFlag) : Bool := x.latched.getLsbD f.bit

/-- The command engine holds a response (R177). -/
def Engine.isHeld : Engine → Bool
  | .held _ => true
  | _ => false

/-- The command engine is EXECUTING: an accepted command not yet taken, or a detach in flight (R177). -/
def Engine.isExecuting : Engine → Bool
  | .accepted _ => true
  | .detachInFlight _ => true
  | _ => false

/-- The four state flags in positions 0 to 3, each showing its condition (R119). -/
def PortState.stateFlags (x : PortState) : BitVec 15 :=
  (if x.engine.isHeld then 1#15 else 0#15) ||| (if x.notices ≠ [] then 2#15 else 0#15)
    ||| (if x.inbound.urgent.entries ≠ [] then 4#15 else 0#15)
    ||| (if x.inbound.routine.entries ≠ [] then 8#15 else 0#15)

/-- The fifteen event flags as the EVENT_FLAGS register reads (R118). -/
def PortState.eventFlags (x : PortState) : BitVec 15 := x.latched ||| x.stateFlags

/-- The attention condition, which asserts ATTN_N: some flag is set and enabled (R123). -/
def PortState.attention (x : PortState) : Bool := decide (x.eventFlags &&& x.enables ≠ 0#15)

/-- Bits 1-0 of the status byte and byte 0 of PORT_STATE (R172, R188). -/
def Session.code : Session → Byte
  | .offline => 0#8
  | .attached => 1#8
  | .detaching _ => 2#8

/-- Byte 3 of PORT_STATE (R188). -/
def Engine.code : Engine → Byte
  | .idle => 0#8
  | .accepted _ => 1#8
  | .detachInFlight _ => 1#8
  | .held _ => 2#8

/-- The status byte as the port's state stands (R172). -/
def PortState.statusByte (x : PortState) : Byte :=
  (if x.engine.isHeld then 0x80#8 else 0#8) ||| (if x.engine.isExecuting then 0x40#8 else 0#8)
    ||| (if x.attention then 0x20#8 else 0#8) ||| (if x.notices ≠ [] then 0x10#8 else 0#8)
    ||| (if x.inbound.urgent.entries ≠ [] then 0x08#8 else 0#8)
    ||| (if x.inbound.routine.entries ≠ [] then 0x04#8 else 0#8) ||| x.session.code

/-- A write of EVENT_FLAGS clears every latched flag named by a 1; a state flag keeps showing its condition, and positions
that name no flag are ignored (R119, R121). -/
def PortState.clearFlags (x : PortState) (value : Word) : PortState :=
  { x with latched := x.latched &&& ~~~(value.setWidth 15) }

/-- A write of EVENT_ENABLE replaces every enable; positions that name no flag are stored as 0 (R122). -/
def PortState.setEnables (x : PortState) (value : Word) : PortState := { x with enables := value.setWidth 15 }

end Machine
end Sys2Proof
end

