-- ==== Sys2Proof/Machine/Ops.lean ====
section
/-! DEFINITION. The named operations over the hub's state that the commands share: one port, one descriptor, flags on several
ports, answers, the session and claim steps, the lease and notice offers. -/

namespace Sys2Proof
namespace Machine

/-- What one step answers. -/
abbrev StepOutcome := Host.Outcome State Fault Refusal

/-! ## One port, one descriptor -/

/-- What the hub keeps for a port. -/
def State.port (s : State) (p : Port) : PortState := s.ports.get p

/-- Replace what the hub keeps for a port. -/
def State.setPort (s : State) (p : Port) (x : PortState) : State := { s with ports := s.ports.set p x }

/-- Change what the hub keeps for a port. -/
def State.modifyPort (s : State) (p : Port) (f : PortState → PortState) : State := s.setPort p (f (s.port p))

/-- Change every port, in one event. -/
def State.mapPorts (s : State) (f : Port → PortState → PortState) : State := { s with ports := s.ports.map f }

/-- One descriptor of the message table. -/
def State.desc (s : State) (i : DescIndex) : Descriptor := s.table[i]

/-- Replace one descriptor. -/
def State.setDesc (s : State) (i : DescIndex) (d : Descriptor) : State := { s with table := s.table.set i d }

/-- Set a latched flag on every port that `on` names. -/
def State.raiseWhere (s : State) (on : Port → Bool) (f : LatchedFlag) : State :=
  s.mapPorts fun q x => if on q then x.raise f else x

/-- Set a latched flag on one port. -/
def State.raiseOn (s : State) (p : Port) (f : LatchedFlag) : State := s.modifyPort p fun x => x.raise f

/-- PEER_CHANGE is set on every other port that is ATTACHED (R131, R139). -/
def State.announcePeerChange (s : State) (p : Port) : State :=
  s.raiseWhere (fun q => decide (q ≠ p ∧ (s.port q).session = .attached)) .peerChange

/-! ## Messages -/

/-- The message that a descriptor holds, if it is not FREE (R2). -/
def DescState.message? : DescState → Option Message
  | .free => none
  | .opened m => some m
  | .held m => some m
  | .live m _ => some m

/-- The message that a descriptor holds before delivery: OPEN or HELD (R7, R136). -/
def DescState.undelivered? : DescState → Option Message
  | .free => none
  | .opened m => some m
  | .held m => some m
  | .live _ _ => none

/-- Readers remaining (R2, R4): absent in FREE, 0 from the entry to OPEN on, and in LIVE the count that the delivery step sets
and each removal lowers. The 0 is computed and not stored (log entry 20). -/
def DescState.readersRemaining : DescState → Option Nat
  | .free => none
  | .opened _ => some 0
  | .held _ => some 0
  | .live _ d => some d.readers

/-- The cell count k: the number of cells in the chain (R2). -/
def Message.cells (m : Message) : Nat := m.chain.length

/-- The handle of a descriptor's message: generation times 128 plus index (R6). -/
def handleOf (g : Fin 512) (i : DescIndex) : Handle := BitVec.ofNat 16 (g.val * 128 + i.val)

/-- The index part of a handle: the handle modulo 128 (R6). -/
def handleIndex (h : Handle) : DescIndex := Fin.ofNat 128 h.toNat

/-- The generation part of a handle: the handle divided by 128, rounded down (R6). -/
def handleGeneration (h : Handle) : Fin 512 := Fin.ofNat 512 (h.toNat / 128)

/-- The handle that names the message of a descriptor now. -/
def State.handleAt (s : State) (i : DescIndex) : Handle := handleOf (s.desc i).generation i

/-- A descriptor becomes FREE: its generation rises by one, 511 wraps to 0, and its other fields become absent (R11). -/
def State.freeDesc (s : State) (i : DescIndex) : State :=
  s.setDesc i { generation := (s.desc i).generation + 1, state := .free }

/-- The FREE descriptor with the lowest index (R10). -/
def State.lowestFree (s : State) : Option DescIndex :=
  (List.finRange 128).find? fun i => decide ((s.desc i).state = .free)

/-- Whether a descriptor is OPEN, HELD or LIVE with this source. -/
def Descriptor.sourcedBy (d : Descriptor) (p : Port) : Bool :=
  match d.state.message? with
  | some m => decide (m.source = p)
  | none => false

/-- A port's outstanding count: its OPEN, HELD and LIVE descriptors (R13). -/
def State.outstanding (s : State) (p : Port) : Nat := s.table.toList.countP fun d => d.sourcedBy p

/-- The number of descriptors that are not FREE (R12). -/
def State.descriptorsInUse (s : State) : Nat := s.table.toList.countP fun d => decide (d.state ≠ .free)

/-! ## Responses -/

/-- A result and payload are placed in the port's response holder, and its engine becomes RESPONSE_HELD (R178). -/
def State.answer (s : State) (p : Port) (r : Result) (payload : List Byte) : State :=
  s.modifyPort p fun x => { x with engine := .held { result := r, payload := payload } }

/-- A refusal: its result goes to the holder like any other, with no payload (R184). -/
def refuse (p : Port) (r : Result) (s : State) : StepOutcome := .next (s.answer p r [])

/-! ## The session and claim steps, the lease -/

/-- The session step (R130): `offlineToo` for the commands that an OFFLINE port may use. -/
def sessionCheck (offlineToo : Bool) (p : Port) (s : State) : Option Result :=
  match (s.port p).session with
  | .attached => none
  | .offline => if offlineToo then none else some .notAttached
  | .detaching _ => some .detaching

/-- Whether the port holds the configuration claim (R151). -/
def State.holdsClaim (s : State) (p : Port) : Bool :=
  match s.claim with
  | some c => decide (c.holder = p)
  | none => false

/-- The claim step (R158). -/
def claimCheck (p : Port) (s : State) : Option Result := if s.holdsClaim p then none else some .noClaim

/-- A command of the holder's port that passed the code and length check sets the lease to 2000 (R153). -/
def State.renewLease (s : State) (p : Port) : State :=
  if s.holdsClaim p then { s with claim := some { holder := p, lease := Config.claimLease } } else s

/-- The claim is granted or renewed with a lease of 2000 (R152). A grant finds no lease event of a mark before it (R155). -/
def State.grantClaim (s : State) (p : Port) : State :=
  { s with claim := some { holder := p, lease := Config.claimLease }, leaseDue := s.leaseDue && s.holdsClaim p }

/-- The claim is released: no holder, no lease (R151), and a mark's lease event finds nothing to lower (R155, R156). -/
def State.dropClaim (s : State) : State := { s with claim := none, leaseDue := false }

/-- The claim is released if this port holds it (R133). -/
def State.dropClaimOf (s : State) (p : Port) : State := if s.holdsClaim p then s.dropClaim else s

/-! ## Notices -/

/-- An offer of a notice to a port, decided on its session state and queue as they stand (R111): dropped without a flag when
the port is not ATTACHED, dropped with NOTICE_LOST when its queue is full, appended at the tail otherwise. -/
def State.offer (s : State) (p : Port) (n : Notice) : State :=
  if (s.port p).session = .attached then
    if (s.port p).notices.length < Config.noticeDepth then s.modifyPort p fun x => { x with notices := x.notices ++ [n] }
    else s.raiseOn p .noticeLost
  else s

/-! ## Meters -/

/-- An addition to a meter saturates (R163). -/
def satAdd (a b : Nat) : Nat := min (a + b) Config.meterMax

/-- Change the meters of a port. -/
def State.countMeters (s : State) (p : Port) (f : Meters → Meters) : State :=
  s.modifyPort p fun x => { x with meters := f x.meters }

end Machine
end Sys2Proof
end

