-- ==== Sys2Proof/Machine/Cells.lean ====
section
/-! DEFINITION. The cell pool: protected words, their classes, and the reads and writes of message bytes (R16 to R19, R47,
R90). -/

namespace Sys2Proof
namespace Machine

/-! ## The pool as a sorted list in canonical form -/

/-- What an unlisted address reads as: zero with its correct check code (log entry 9). -/
def StoredWord.blank : StoredWord := StoredWord.fresh 0#32

/-- The stored word at an address. -/
def Pool.lookup : Pool → Nat → StoredWord
  | [], _ => StoredWord.blank
  | (b, v) :: rest, a => if a = b then v else Pool.lookup rest a

/-- Store a word, keeping addresses rising and listing no word that equals an unlisted one. -/
def Pool.store : Pool → Nat → StoredWord → Pool
  | [], a, w => if w = StoredWord.blank then [] else [(a, w)]
  | (b, v) :: rest, a, w =>
    if a < b then (if w = StoredWord.blank then (b, v) :: rest else (a, w) :: (b, v) :: rest)
    else if a = b then (if w = StoredWord.blank then rest else (a, w) :: rest)
    else (b, v) :: Pool.store rest a w

/-- Fill all eight words of a cell with zeros and correct check codes (R19). -/
def Pool.zeroFill (m : Pool) (c : CellIndex) : Pool := m.filter fun e => decide (e.1 / 8 ≠ c.val)

/-- The canonical form: addresses rise strictly, lie in the pool, and no listed word equals an unlisted one. -/
abbrev Pool.wf (m : Pool) : Prop :=
  m.Pairwise (fun a b => a.1 < b.1) ∧ ∀ e ∈ m, e.2 ≠ StoredWord.blank ∧ e.1 < 4096

/-! ## Classes -/

/-- The number of bits set. -/
def bitCount {w : Nat} (x : BitVec w) : Nat := (List.finRange w).countP fun i => x.getLsbD i.val

/-- How many stored bits, in the word or in its code, disagree (R16). -/
def StoredWord.disagreeing (w : StoredWord) : Nat := bitCount (w.data ^^^ w.coded) + bitCount w.codeFlips

/-- The class that the check code shows (R16): none, one or two disagreeing bits are clean, correctable and uncorrectable;
three or more show as any class, a free value (log entry 8). -/
def StoredWord.classify (w : StoredWord) : WordClass :=
  match w.disagreeing with
  | 0 => .clean
  | 1 => .correctable
  | 2 => .uncorrectable
  | _ + 3 => Config.heavyClass w.data w.coded w.codeFlips

/-- The stored word with one bit of the word or of its code changed: bits 32 to 38 leave the word as it is. -/
def changeBit (w : Word) (i : Nat) : Word := if i < 32 then w ^^^ (1#32 <<< i) else w

/-- The word after the correction (R16). With one disagreeing bit it is the word that was stored. With three or more the
correction changes one bit, a free value, and leaves the word wrong (log entry 8). -/
def StoredWord.corrected (w : StoredWord) : Word :=
  if w.disagreeing < 3 then w.coded
  else
    let i := (Config.heavyChangedBit w.data w.coded w.codeFlips).val
    if changeBit w.data i = w.coded then changeBit w.data ((i + 1) % 32) else changeBit w.data i

/-- The bytes of a word kept by a merge: the corrected word if correctable, the stored one otherwise (R18). -/
def StoredWord.kept (w : StoredWord) : Word :=
  match w.classify with
  | .correctable => w.corrected
  | .clean => w.data
  | .uncorrectable => w.data

/-- A storage upset disturbs bits of a stored word or of its check code (R16). -/
def StoredWord.upset (w : StoredWord) (wordBits : Word) (codeBits : BitVec 7) : StoredWord :=
  { w with data := w.data ^^^ wordBits, codeFlips := w.codeFlips ^^^ codeBits }

/-! ## Message bytes -/

/-- The four bytes of a word, the most significant first (2.1). -/
def wordBytes (w : Word) : List Byte := [w.extractLsb' 24 8, w.extractLsb' 16 8, w.extractLsb' 8 8, w.extractLsb' 0 8]

/-- The word of four bytes, the most significant first. -/
def bytesWord (a b c d : Byte) : Word := a ++ b ++ c ++ d

/-- The addresses of the words w, w + 1, ... (`count` of them) of a message: word w of the message is word w mod 8 of the
cell at chain position w / 8 (R16). `none` if the chain is too short. -/
def wordAddresses (chain : List CellIndex) : Nat → Nat → Option (List Nat)
  | _, 0 => some []
  | w, count + 1 =>
    match chain[w / 8]?, wordAddresses chain (w + 1) count with
    | some c, some rest => some ((c.val * 8 + w % 8) :: rest)
    | _, _ => none

/-- The first message word of a byte range. -/
def firstWord (offset : Nat) : Nat := offset / 4

/-- How many message words hold a byte of a range of one or more bytes. -/
def wordCount (offset count : Nat) : Nat := (offset + count - 1) / 4 + 1 - offset / 4

/-- What a READ finds: the words it returns, whether one was uncorrectable, and the pool afterwards. -/
structure ReadWords where
  words : List Word
  uncorrectable : Bool
  pool : Pool
deriving DecidableEq, Repr

/-- Read whole words in order (R17): a clean word as stored, a correctable one corrected and written back with a fresh code,
an uncorrectable one as stored. -/
def readWords : List Nat → Pool → ReadWords
  | [], m => { words := [], uncorrectable := false, pool := m }
  | a :: rest, m =>
    let w := m.lookup a
    match w.classify with
    | .clean =>
      let r := readWords rest m
      { r with words := w.data :: r.words }
    | .correctable =>
      let r := readWords rest (m.store a (StoredWord.fresh w.corrected))
      { r with words := w.corrected :: r.words }
    | .uncorrectable =>
      let r := readWords rest m
      { r with words := w.data :: r.words, uncorrectable := true }

/-- The requested bytes of the words read: `count` bytes from byte `offset` of the message, whose word `offset / 4` is the
first one read (R90). -/
def payloadBytes (words : List Word) (offset count : Nat) : List Byte :=
  ((words.flatMap wordBytes).drop (offset % 4)).take count

/-- Byte `b` of the message after a WRITE of `data` at `offset`: the supplied byte, or the kept one (R18, R47). -/
def mergedByte (offset : Nat) (data : List Byte) (b : Nat) (kept : Byte) : Byte :=
  if b < offset then kept else (data[b - offset]?).getD kept

/-- Message word `w` after a WRITE: supplied bytes in their places, the other bytes kept (R18). -/
def mergedWord (offset : Nat) (data : List Byte) (w : Nat) (kept : Word) : Word :=
  bytesWord (mergedByte offset data (4 * w) (kept.extractLsb' 24 8))
    (mergedByte offset data (4 * w + 1) (kept.extractLsb' 16 8))
    (mergedByte offset data (4 * w + 2) (kept.extractLsb' 8 8))
    (mergedByte offset data (4 * w + 3) (kept.extractLsb' 0 8))

/-- Store the words of a WRITE, from message word `w` on, each with a fresh check code (R18). -/
def writeWords (offset : Nat) (data : List Byte) : Nat → List Nat → Pool → Pool
  | _, [], m => m
  | w, a :: rest, m =>
    writeWords offset data (w + 1) rest
      (m.store a (StoredWord.fresh (mergedWord offset data w (m.lookup a).kept)))

end Machine
end Sys2Proof
end

