-- ==== Sys2Proof/Machine/Credit.lean ====
section
/-! DEFINITION. The credit unit: shared capacity, the charge at OPEN, refunds and the credit-wait marker (chapter 2). -/

namespace Sys2Proof
namespace Machine

/-- Both allotments of a port. -/
def PortConfig.allotments (c : PortConfig) : Nat := c.reserved.urgent + c.reserved.routine

/-- The sum of a figure over the four ports. -/
def sumPorts (f : Port → Nat) : Nat := f .p0 + f .p1 + f .p2 + f .p3

/-- The sum of the eight reserved allotments (R24). -/
def State.totalAllotments (s : State) : Nat := sumPorts fun p => (s.port p).config.allotments

/-- SC: 512 minus the sum of the allotments (R24). -/
def State.sharedCapacity (s : State) : Nat := Config.cellCount - s.totalAllotments

/-- TB: the sum of BR over the four ports (R25). -/
def State.totalBorrowed (s : State) : Nat := sumPorts fun p => (s.port p).borrowed

/-- The split of a charge: a reserved and a shared part (R27). -/
structure Charge where
  reserved : Nat
  shared : Nat
deriving DecidableEq, Repr

/-- The charge of k cells on a lane: the lane's allotment first, the rest borrowed; granted when both tests pass (R27). -/
def State.grant (s : State) (p : Port) (l : Lane) (k : Nat) : Option Charge :=
  let x := s.port p
  let r := min k (x.config.reserved.get l - x.reservedUse.get l)
  let sh := k - r
  if sh ≤ s.sharedCapacity - s.totalBorrowed ∧ x.borrowed + sh ≤ x.config.borrowCeiling then
    some { reserved := r, shared := sh }
  else none

/-- A granted charge raises RU by r and BR by s (R27). -/
def PortState.charge (x : PortState) (l : Lane) (c : Charge) : PortState :=
  { x with reservedUse := x.reservedUse.set l (x.reservedUse.get l + c.reserved), borrowed := x.borrowed + c.shared }

/-- A refund lowers RU by r and BR by s (R29). -/
def PortState.uncharge (x : PortState) (l : Lane) (c : Charge) : PortState :=
  { x with reservedUse := x.reservedUse.set l (x.reservedUse.get l - c.reserved), borrowed := x.borrowed - c.shared }

/-- Resolving a set credit-wait marker clears it and sets CREDIT_FREED (R32). -/
def PortState.resolveMarker (x : PortState) : PortState :=
  if x.creditWait then { x.raise .creditFreed with creditWait := false } else x

/-- Resolve the marker of every port that `qualifies`. -/
def State.resolveMarkers (s : State) (qualifies : Port → Bool) : State :=
  s.mapPorts fun q x => if qualifies q then x.resolveMarker else x

/-- The split that a message was charged at OPEN. -/
def Message.split (m : Message) : Charge := { reserved := m.reservedCharge, shared := m.sharedCharge }

/-- Which port's marker a refund of a message qualifies for (R32): every port's if it returns shared cells, the source's own
if it returns reserved cells. -/
def Message.resolves (m : Message) (q : Port) : Bool :=
  decide (1 ≤ m.sharedCharge ∨ q = m.source ∧ 1 ≤ m.reservedCharge)

/-- A refund of a message's charge (R29): the recorded split returns to its source, its chain goes to the tail of the free
list in chain order (R22), and every credit-wait marker that the refund qualifies for is resolved (R32). -/
def State.refund (s : State) (m : Message) : State :=
  let charged := s.modifyPort m.source fun x => x.uncharge m.lane m.split
  ({ charged with freeList := charged.freeList ++ m.chain }).resolveMarkers m.resolves

end Machine
end Sys2Proof
end

