-- ==== Sys2Proof/Machine/Queues.lean ====
section
/-! DEFINITION. The queue unit: removals of head entries, waiter sets, the retire rule, and the delivery step (chapters 4
and 5). -/

namespace Sys2Proof
namespace Machine

/-! ## Queues and waiter sets -/

/-- One inbound queue. -/
def State.queue (s : State) (p : Port) (l : Lane) : InboundQueue := (s.port p).inbound.get l

/-- Change one inbound queue of a port. -/
def PortState.modifyQueue (x : PortState) (l : Lane) (f : InboundQueue → InboundQueue) : PortState :=
  { x with inbound := x.inbound.set l (f (x.inbound.get l)) }

/-- Change one inbound queue. -/
def State.modifyQueue (s : State) (p : Port) (l : Lane) (f : InboundQueue → InboundQueue) : State :=
  s.modifyPort p fun x => x.modifyQueue l f

/-- A port joins a set of ports, which holds it at most once and stays in ascending order. -/
def joinSet (q : Port) (ports : List Port) : List Port := Port.all.filter fun x => decide (x = q ∨ x ∈ ports)

/-- The message of a LIVE descriptor that an entry names under its own handle (R91). -/
def State.liveEntry (s : State) (e : Entry) : Option (Message × Delivery) :=
  let d := s.desc (handleIndex e.handle)
  match d.state with
  | .live m dl => if d.generation = handleGeneration e.handle then some (m, dl) else none
  | _ => none

/-- The entry at the head of a queue, with its LIVE message. -/
structure Head where
  entry : Entry
  message : Message
  delivery : Delivery
deriving DecidableEq, Repr

/-- The head of a queue: `some none` for an empty queue, `none` for a head entry that names no LIVE message (R91). -/
def State.head (s : State) (p : Port) (l : Lane) : Option (Option Head) :=
  match (s.queue p l).entries with
  | [] => some none
  | e :: _ =>
    match s.liveEntry e with
    | some (m, d) => some (some { entry := e, message := m, delivery := d })
    | none => none

/-- The head test of READ and DONE (R88): the lane of the port's queue whose head entry has this handle. -/
def State.headLane (s : State) (p : Port) (h : Handle) : Option Lane :=
  if ((s.queue p .urgent).entries.head?.map Entry.handle) = some h then some .urgent
  else if ((s.queue p .routine).entries.head?.map Entry.handle) = some h then some .routine
  else none

/-! ## Removal and retirement -/

/-- A port's outcome record leaves PENDING, once (R3). -/
def setOutcome (p : Port) (o : ReaderOutcome) (records : List (Port × ReaderOutcome)) : List (Port × ReaderOutcome) :=
  records.map fun r => if r.1 = p ∧ r.2 = .pending then (r.1, o) else r

/-- A destination has finished with the message: its record is set and readers remaining falls by one (R3, R79). -/
def Delivery.finish (d : Delivery) (p : Port) (o : ReaderOutcome) : Delivery :=
  { d with outcomes := setOutcome p o d.outcomes, readers := d.readers - 1 }

/-- The RETURNED notice of a retiring message (R94). -/
def returnedNotice (h : Handle) (m : Message) (d : Delivery) : Notice :=
  .returned h m.tag m.sourceEpoch m.lane m.cells m.fault d.refusedOffline d.refusedFull d.outcomes

/-- Retirement (R93): the refund, the RETURNED notice to an ATTACHED source (R95: to no other), the freeing. -/
def State.retire (s : State) (i : DescIndex) (m : Message) (d : Delivery) : State :=
  ((s.refund m).offer m.source (returnedNotice (s.handleAt i) m d)).freeDesc i

/-- What a removal does to the message: a reader finishes, and the message retires if it was the last (R3, R93). -/
def State.finishReader (s : State) (i : DescIndex) (m : Message) (d : Delivery) (p : Port) (o : ReaderOutcome) : State :=
  let d' := d.finish p o
  if d'.readers = 0 then s.retire i m d'
  else s.setDesc i { generation := (s.desc i).generation, state := .live m d' }

/-- What a removal does to the queue: the head leaves, and when the count falls from 32 to 31 every waiter has QUEUE_SPACE
set and the waiter set is emptied (R82). -/
def State.dropHead (s : State) (p : Port) (l : Lane) : State :=
  let q := s.queue p l
  if q.entries.length = Config.queueDepth then
    (s.modifyQueue p l fun x => { x with entries := x.entries.tail, waiters := [] }).raiseWhere
      (fun w => decide (w ∈ q.waiters)) .queueSpace
  else s.modifyQueue p l fun x => { x with entries := x.entries.tail }

/-- A removal of the head entry (R79), in one event. -/
def State.removeHead (s : State) (p : Port) (l : Lane) (hd : Head) (o : ReaderOutcome) : State :=
  (s.dropHead p l).finishReader (handleIndex hd.entry.handle) hd.message hd.delivery p o

/-! ## The delivery step -/

/-- The three sets that the delivery step finds (R58). -/
structure Judgement where
  accepting : List Port
  offline : List Port
  full : List Port
deriving DecidableEq, Repr

/-- How the delivery step judges one destination (R58). -/
inductive Verdict where
  | accept
  | refusedOffline
  | refusedFull
deriving DecidableEq, Repr

/-- A destination that is not ATTACHED is refused-offline; one whose queue on the lane is full is refused-full (R58). -/
def State.verdict (s : State) (l : Lane) (d : Port) : Verdict :=
  if (s.port d).session = .attached then
    if (s.queue d l).entries.length < Config.queueDepth then .accept else .refusedFull
  else .refusedOffline

/-- The delivery step's judgement of every destination requested, in ascending port order (R58). -/
def State.judge (s : State) (m : Message) : Judgement :=
  { accepting := m.destinations.filter fun d => decide (s.verdict m.lane d = .accept)
    offline := m.destinations.filter fun d => decide (s.verdict m.lane d = .refusedOffline)
    full := m.destinations.filter fun d => decide (s.verdict m.lane d = .refusedFull) }

/-- Whether the delivery step succeeds (R59). -/
def Judgement.succeeds (j : Judgement) : Mode → Bool
  | .all => decide (j.offline = [] ∧ j.full = [])
  | .best => decide (j.accepting ≠ [])

/-- The reason of a failed step (R59). -/
def Judgement.reason (j : Judgement) : Mode → FailReason
  | .all => if j.offline = [] then .queueFull else .peerOffline
  | .best => if j.full = [] then .peerOffline else .queueFull

/-- The number of destinations refused (R165). -/
def Judgement.refusals (j : Judgement) : Nat := j.offline.length + j.full.length

/-- The source joins the waiter set of every refused-full destination's queue on the lane (R62). -/
def State.addWaiters (s : State) (source : Port) (l : Lane) (full : List Port) : State :=
  s.mapPorts fun q x => if q ∈ full then x.modifyQueue l fun k => { k with waiters := joinSet source k.waiters } else x

/-- One entry joins the tail of the queue on the lane of every accepting destination (R60). -/
def State.appendEntries (s : State) (e : Entry) (l : Lane) (accepting : List Port) : State :=
  s.mapPorts fun q x => if q ∈ accepting then x.modifyQueue l fun k => { k with entries := k.entries ++ [e] } else x

/-- The LIVE fields set by a successful delivery step (R60). -/
def Judgement.delivery (j : Judgement) (seq : BitVec 16) : Delivery :=
  { accepted := j.accepting, refusedOffline := j.offline, refusedFull := j.full
    outcomes := j.accepting.map fun p => (p, .pending), readers := j.accepting.length, sequence := seq }

/-- A failed delivery step: the waiter marks and the REFUSALS meter, and nothing else (R63, R165). -/
def State.deliverFail (s : State) (m : Message) (j : Judgement) : State :=
  (s.addWaiters m.source m.lane j.full).countMeters m.source fun x =>
    { x with refusals := satAdd x.refusals j.refusals }

/-- A successful delivery step: the entries, the LIVE descriptor with the source's sequence number, which then rises by one
(R61), the waiter marks, and the source's meters (R60, R165). -/
def State.deliverOk (s : State) (i : DescIndex) (m : Message) (j : Judgement) : State :=
  let seq := (s.port m.source).sequence
  let entered := s.appendEntries { handle := s.handleAt i, arrival := s.tick } m.lane j.accepting
  let live := (entered.setDesc i { generation := (s.desc i).generation, state := .live m (j.delivery seq) }).addWaiters
    m.source m.lane j.full
  live.modifyPort m.source fun x =>
    { x with
      sequence := seq + 1
      meters :=
        { x.meters with
          posts := satAdd x.meters.posts 1, postedCells := satAdd x.meters.postedCells m.cells
          refusals := satAdd x.meters.refusals j.refusals } }

/-- Whether pacing is on for a port (R56). -/
def PortState.pacingOn (x : PortState) : Bool := decide (1 ≤ x.config.paceInterval)

/-- A successful delivery step spends as many tokens as the message has cells while pacing is on (R57, R67, R73). -/
def State.spendTokens (s : State) (p : Port) (k : Nat) : State :=
  s.modifyPort p fun x => if x.pacingOn then { x with tokens := x.tokens - k } else x

/-- The held-post slot empties (R70). -/
def State.emptySlot (s : State) (p : Port) : State := s.modifyPort p fun x => { x with heldPost := none }

end Machine
end Sys2Proof
end

