-- ==== Sys2Proof/Machine/Operands.lean ====
section
/-! DEFINITION. Wire formats (11.7): the arguments of every command, the payload of every result, notice records and result
codes; every value multi-byte fields most significant byte first. -/

namespace Sys2Proof
namespace Machine

/-! ## Numbers -/

/-- A two-byte field. -/
def word16 (hi lo : Byte) : BitVec 16 := hi ++ lo

/-- The two bytes of a field. -/
def be16 (x : BitVec 16) : List Byte := [x.extractLsb' 8 8, x.extractLsb' 0 8]

/-- The four bytes of a field. -/
def be32 (x : Word) : List Byte := wordBytes x

/-- A number in one byte. -/
def byteOf (n : Nat) : Byte := BitVec.ofNat 8 n

/-- A number in two bytes. -/
def be16Of (n : Nat) : List Byte := be16 (BitVec.ofNat 16 n)

/-- A number in four bytes. -/
def be32Of (n : Nat) : List Byte := be32 (BitVec.ofNat 32 n)

/-! ## The shared encodings (11.7) -/

/-- A port in one byte. -/
def portByte (p : Port) : Byte := byteOf p.toNat

/-- The port that a byte names, if any. -/
def portOf (b : Byte) : Option Port := Port.all.find? fun p => decide (portByte p = b)

/-- A set of ports: bit p for each member. -/
def setByte (ports : List Port) : Byte :=
  byteOf ((Port.all.filter fun p => decide (p ∈ ports)).foldl (fun n p => n + 2 ^ p.toNat) 0)

/-- The set of ports that a byte names, if bits 4 to 7 are zero. -/
def setOf (b : Byte) : Option (List Port) :=
  if b.toNat < 16 then some (Port.all.filter fun p => b.getLsbD p.toNat) else none

/-- A lane in one byte. -/
def laneByte : Lane → Byte
  | .urgent => 0#8
  | .routine => 1#8

/-- The lane that a byte names, if any. -/
def laneOf (b : Byte) : Option Lane := if b = 0#8 then some .urgent else if b = 1#8 then some .routine else none

/-- PEEK's lane selection (R85). -/
inductive Selection where
  | lane (l : Lane)
  | any
deriving DecidableEq, Repr

/-- The selection that a byte names, if any. -/
def selectionOf (b : Byte) : Option Selection := if b = 2#8 then some .any else (laneOf b).map .lane

/-- The mode that a byte names, if any. -/
def modeOf (b : Byte) : Option Mode := if b = 0#8 then some .all else if b = 1#8 then some .best else none

/-- yes and no in one byte. -/
def yesNo (b : Bool) : Byte := if b then 1#8 else 0#8

/-- The yes or no that a byte names, if any. -/
def yesNoOf (b : Byte) : Option Bool := if b = 0#8 then some false else if b = 1#8 then some true else none

/-- The fields of a configuration record (R148). -/
inductive ConfigField where
  | reserved (l : Lane)
  | borrowCeiling
  | outstandingCap
  | paceInterval
  | bucketDepth
deriving DecidableEq, Repr

/-- The field that a byte of CONFIGURE names, if any. -/
def fieldOf (b : Byte) : Option ConfigField :=
  if b = 0#8 then some (.reserved .urgent)
  else if b = 1#8 then some (.reserved .routine)
  else if b = 2#8 then some .borrowCeiling
  else if b = 3#8 then some .outstandingCap
  else if b = 4#8 then some .paceInterval
  else if b = 5#8 then some .bucketDepth
  else none

/-- An outcome in the low half of an outcome record's byte; PENDING is in no notice (R94). -/
def outcomeCode : ReaderOutcome → Nat
  | .pending => 0
  | .consumed => 1
  | .expired => 2
  | .discarded => 3

/-- Result codes (R185). -/
def Result.code : Result → Byte
  | .ok => 0x00#8
  | .held => 0x01#8
  | .dataFault => 0x02#8
  | .notAttached => 0x10#8
  | .detaching => 0x11#8
  | .noClaim => 0x18#8
  | .frameCrc => 0x20#8
  | .badCommand => 0x21#8
  | .badArgument => 0x22#8
  | .range => 0x23#8
  | .staleHandle => 0x30#8
  | .notOwner => 0x31#8
  | .wrongState => 0x32#8
  | .noDescriptor => 0x40#8
  | .noCredit => 0x41#8
  | .paced => 0x42#8
  | .queueFull => 0x43#8
  | .peerOffline => 0x44#8
  | .empty => 0x45#8
  | .claimHeld => 0x46#8
  | .inUse => 0x48#8
  | .noResponse => 0xFF#8

/-- The result code of a failed delivery step (R59, R187). -/
def FailReason.result : FailReason → Result
  | .queueFull => .queueFull
  | .peerOffline => .peerOffline

/-! ## Arguments -/

/-- The five arguments of OPEN (R39). -/
structure OpenArgs where
  lane : Lane
  length : Nat
  destinations : List Port
  mode : Mode
  tag : BitVec 16
deriving DecidableEq, Repr

/-- The arguments of OPEN from its seven bytes, if R39 accepts them from this port. -/
def openArgs (p : Port) (lane l1 l0 dest mode t1 t0 : Byte) : Option OpenArgs :=
  match laneOf lane, setOf dest, modeOf mode with
  | some l, some ds, some m =>
    let len := (word16 l1 l0).toNat
    if 1 ≤ len ∧ len ≤ 256 ∧ ds ≠ [] ∧ p ∉ ds then
      some { lane := l, length := len, destinations := ds, mode := m, tag := word16 t1 t0 }
    else none
  | _, _, _ => none

/-- The cell count of a length: divided by 32, rounded up (R2). -/
def cellsFor (length : Nat) : Nat := (length + 31) / 32

/-! ## Payloads (R186) -/

/-- OPEN's payload: handle, k, r, s (R42). -/
def openPayload (h : Handle) (k : Nat) (c : Charge) : List Byte :=
  be16 h ++ [byteOf k, byteOf c.reserved, byteOf c.shared]

/-- POST's payload: sequence, accepted, refused-offline and refused-full sets (R57). -/
def postPayload (seq : BitVec 16) (j : Judgement) : List Byte :=
  be16 seq ++ [setByte j.accepting, setByte j.offline, setByte j.full]

/-- The payload of QUEUE_FULL and PEER_OFFLINE: the two refusal sets (R57). -/
def refusalPayload (j : Judgement) : List Byte := [setByte j.offline, setByte j.full]

/-- An entry's age in whole milliseconds, from a wait taken modulo 2^32 (R86, R100). -/
def ageMs (now arrival : BitVec 32) : Nat := (now - arrival).toNat / 1000

/-- PEEK's payload (R86): `remaining` is the entry count, the head included. -/
def peekPayload (hd : Head) (now : BitVec 32) (remaining : Nat) : List Byte :=
  be16 hd.entry.handle ++ [portByte hd.message.source, hd.message.sourceEpoch] ++ be16 hd.delivery.sequence
    ++ be16 hd.message.tag ++ be16Of hd.message.length ++ [laneByte hd.message.lane, yesNo hd.message.fault]
    ++ be32Of (ageMs now hd.entry.arrival) ++ [byteOf remaining]

/-- ACCOUNT's payload (R38). -/
def accountPayload (x : PortState) (outstanding : Nat) : List Byte :=
  [byteOf x.config.reserved.urgent, byteOf x.config.reserved.routine, byteOf x.reservedUse.urgent,
    byteOf x.reservedUse.routine] ++ be16Of x.config.borrowCeiling ++ be16Of x.borrowed
    ++ [byteOf outstanding, byteOf x.config.outstandingCap] ++ be16Of x.tokens ++ be16Of x.config.paceInterval
    ++ be16Of x.config.bucketDepth

/-- METERS' payload: the seven meters in the order of R163. -/
def metersPayload (m : Meters) : List Byte :=
  be32Of m.heldCellMs ++ be32Of m.borrowMs ++ be32Of m.posts ++ be32Of m.postedCells ++ be32Of m.refusals
    ++ be32Of m.consumed ++ be32Of m.expiries

/-- CONFIG_READ's payload (R150). -/
def configPayload (target : Port) (c : PortConfig) : List Byte :=
  [portByte target, byteOf c.reserved.urgent, byteOf c.reserved.routine] ++ be16Of c.borrowCeiling
    ++ [byteOf c.outstandingCap] ++ be16Of c.paceInterval ++ be16Of c.bucketDepth

/-- One outcome record in one byte: port in bits 7-4, outcome in bits 3-0 (R187). -/
def outcomeByte (r : Port × ReaderOutcome) : Byte := byteOf (r.1.toNat * 16 + outcomeCode r.2)

/-- Fill with 0x00 to sixteen bytes (R187). -/
def padRecord (bytes : List Byte) : List Byte := bytes ++ List.replicate (16 - bytes.length) 0#8

/-- A notice record in sixteen bytes (R187). -/
def noticeBytes : Notice → List Byte
  | .returned h tag epoch lane cells fault off full outs =>
    padRecord ([0x01#8] ++ be16 h ++ be16 tag ++ [epoch, laneByte lane, byteOf cells, yesNo fault, setByte off, setByte full]
      ++ outs.map outcomeByte)
  | .posted h tag seq acc off full =>
    padRecord ([0x02#8] ++ be16 h ++ be16 tag ++ be16 seq ++ [setByte acc, setByte off, setByte full])
  | .postFailed h tag reason off full =>
    padRecord ([0x03#8] ++ be16 h ++ be16 tag ++ [reason.result.code, setByte off, setByte full])
  | .expired h tag source seq lane =>
    padRecord ([0x04#8] ++ be16 h ++ be16 tag ++ [portByte source] ++ be16 seq ++ [laneByte lane])

/-- NOTICES' payload: the count and the records, oldest first (R116). -/
def noticesPayload (records : List Notice) : List Byte := byteOf records.length :: records.flatMap noticeBytes

end Machine
end Sys2Proof
end

