-- ==== Sys2Proof/Machine/Frames.lean ====
section
/-! DEFINITION. The port engine: the frame check, command frames, FETCH, register reads and writes (chapter 11). -/

namespace Sys2Proof
namespace Machine

/-! ## The frame check (R173) -/

/-- One bit into the CRC register. -/
def crcBit (reg : Byte) (bit : Bool) : Byte := if (reg.msb ^^ bit) then (reg <<< 1) ^^^ 0x2F#8 else reg <<< 1

/-- One byte into the CRC register, most significant bit first. -/
def crcByte (reg b : Byte) : Byte :=
  [7, 6, 5, 4, 3, 2, 1, 0].foldl (fun r i => crcBit r (b.getLsbD i)) reg

/-- The CRC of a run of bytes: polynomial 0x2F, from 0xFF. -/
def crc8 (bytes : List Byte) : Byte := bytes.foldl crcByte 0xFF#8

/-! ## Command frames -/

/-- What the port engine keeps of a frame's argument bytes: the first 72 (R174). -/
def CommandFrame.of (code : Byte) (args : List Byte) : CommandFrame :=
  { code := code, length := args.length, args := args.take 72 }

/-- The bytes of a good command frame (R174). -/
def frameBytes (code : Byte) (args : List Byte) : List Byte :=
  (code :: byteOf args.length :: args) ++ [crc8 (code :: byteOf args.length :: args)]

/-- The command of a complete frame and whether its CRC byte is good; bytes after the CRC byte are ignored (R174). -/
def parseFrame (bytes : List Byte) : Option (CommandFrame × Bool) :=
  match bytes with
  | code :: n :: rest =>
    if isCommandByte code then
      match rest[n.toNat]? with
      | some crc =>
        let args := rest.take n.toNat
        some (CommandFrame.of code args, decide (crc8 (code :: n :: args) = crc))
      | none => none
    else none
  | _ => none

/-- CS_N rises: the chip-select period in hand, if any, is over (R171). -/
def State.endPeriod (s : State) (p : Port) : State := s.modifyPort p fun x => { x with chipSelect := .high }

/-- A frame event on a port: `miso` gives the bytes shifted out from the captured status byte, `act` the frame's effect. A
chip-select period begun before a power-on reset takes no frame (R147). A frame row with no CS_N_FALL before it carries its
own fall: the status byte is the one that stands (log entry 5, DESIGN CHOICE). -/
def State.frame (s : State) (p : Port) (miso : Byte → List Byte) (act : State → State) : State :=
  match (s.port p).chipSelect with
  | .lost => s.endPeriod p
  | .begun status => act (s.modifyPort p fun x => { x with chipSelect := .high, miso := miso status })
  | .high => act (s.modifyPort p fun x => { x with miso := miso x.statusByte })

/-- MISO of a frame that returns nothing: the status byte, then 0x00 (R174, R183). -/
def statusOnly (length : Nat) (status : Byte) : List Byte := status :: List.replicate (length - 1) 0#8

/-- The decision on a complete command frame (R175). -/
def State.decideFrame (s : State) (p : Port) (f : CommandFrame) (good : Bool) : State :=
  match (s.port p).engine with
  | .idle =>
    if good then s.modifyPort p fun x => { x with engine := .accepted f }
    else (s.answer p .frameCrc []).raiseOn p .frameError
  | _ => s.raiseOn p (if good then .overrun else .frameError)

/-- A complete command frame. Bytes that are not one leave the hub as it is (log entry 14). -/
def State.commandFrame (s : State) (p : Port) (bytes : List Byte) : State :=
  match parseFrame bytes with
  | some (f, good) => s.frame p (statusOnly bytes.length) fun t => t.decideFrame p f good
  | none => s

/-- A frame that is discarded with FRAME_ERROR (R189). -/
def State.brokenFrame (s : State) (p : Port) (length : Nat) : State :=
  s.frame p (statusOnly length) fun t => t.raiseOn p .frameError

/-! ## Taking an accepted command -/

/-- The argument lengths that each command allows (R186): code, least, greatest. -/
def argLengths : List (Byte × Nat × Nat) :=
  [(0x01#8, 0, 0), (0x02#8, 0, 0), (0x03#8, 1, 1), (0x10#8, 7, 7), (0x11#8, 4, 67), (0x12#8, 2, 2), (0x13#8, 2, 2),
   (0x20#8, 1, 1), (0x21#8, 4, 4), (0x22#8, 2, 2), (0x23#8, 1, 1), (0x30#8, 0, 0), (0x31#8, 1, 1), (0x40#8, 0, 0),
   (0x41#8, 0, 0), (0x42#8, 4, 4), (0x43#8, 1, 1), (0x4F#8, 0, 0)]

/-- Step 2 of the check order: the code names a command and the length is allowed (R184). -/
def lengthAllowed (code : Byte) (n : Nat) : Bool :=
  argLengths.any fun r => decide (r.1 = code ∧ r.2.1 ≤ n ∧ n ≤ r.2.2)

/-- An accepted command is taken (R178, R184): a wrong code or length is refused with BAD_COMMAND; otherwise a holder's lease
is renewed (R153) and the command goes on from the session step. -/
def takeCommand (p : Port) (f : CommandFrame) (body : List Byte → State → StepOutcome) (s : State) : StepOutcome :=
  if lengthAllowed f.code f.length then body f.args (s.renewLease p) else refuse p .badCommand s

/-- A command of the table for port p. If the port engine has accepted its frame, the command is taken. Otherwise the row
stands for that frame arriving with a good CRC (R175) and, if it is accepted, for its taking as the next event (log entry 4,
DESIGN CHOICE). -/
def issue (p : Port) (code : Byte) (args : List Byte) (body : List Byte → State → StepOutcome) (s : State) :
    StepOutcome :=
  if argsFit args then
    let f := CommandFrame.of code args
    let t := if (s.port p).engine = .accepted f then s else s.commandFrame p (frameBytes code args)
    if (t.port p).engine = .accepted f then takeCommand p f body t else .next t
  else .next s

/-! ## FETCH (R180) -/

/-- What a FETCH frame returns: the held response, or NO_RESPONSE. -/
def Engine.fetched : Engine → Response
  | .held r => r
  | _ => { result := .noResponse, payload := [] }

/-- Bytes 1 to m + 3 of a FETCH frame: result code, payload length, payload, CRC. -/
def responseBytes (r : Response) : List Byte :=
  let covered := r.result.code :: byteOf r.payload.length :: r.payload
  covered ++ [crc8 covered]

/-- MISO of a FETCH frame of `clocked` bytes. -/
def fetchMiso (r : Response) (clocked : Nat) (status : Byte) : List Byte :=
  (status :: responseBytes r ++ List.replicate (clocked - (r.payload.length + 4)) 0#8).take clocked

/-- A held response is released when the CRC byte, byte m + 3, has been clocked out. -/
def Engine.afterFetch (e : Engine) (clocked : Nat) : Engine :=
  match e with
  | .held r => if r.payload.length + 4 ≤ clocked then .idle else .held r
  | other => other

/-- A FETCH frame of `clocked` bytes; no byte is no frame (R171). -/
def State.fetchFrame (s : State) (p : Port) (clocked : Nat) : State :=
  if clocked = 0 then s
  else
    s.frame p (fetchMiso (s.port p).engine.fetched clocked) fun t =>
      t.modifyPort p fun x => { x with engine := x.engine.afterFetch clocked }

/-! ## Registers (R188) -/

/-- The register window: what a read returns. An address that names no register reads as 0 (R182). -/
def State.readRegister (s : State) (p : Port) (address : Byte) : Word :=
  let x := s.port p
  if address = 0x00#8 then Config.hubId
  else if address = 0x01#8 then s.tick
  else if address = 0x02#8 then
    match s.claim with
    | some c => BitVec.ofNat 32 c.holder.toNat
    | none => 0xFF#32
  else if address = 0x03#8 then BitVec.ofNat 32 s.freeList.length
  else if address = 0x04#8 then BitVec.ofNat 32 s.sharedCapacity
  else if address = 0x05#8 then BitVec.ofNat 32 s.totalBorrowed
  else if address = 0x06#8 then BitVec.ofNat 32 s.descriptorsInUse
  else if address = 0x10#8 then bytesWord x.engine.code (yesNo (s.holdsClaim p)) x.epoch x.session.code
  else if address = 0x11#8 then BitVec.ofNat 32 x.notices.length
  else if address = 0x12#8 then
    bytesWord 0#8 0#8 (byteOf x.inbound.urgent.entries.length) (byteOf x.inbound.routine.entries.length)
  else if address = 0x18#8 then x.eventFlags.setWidth 32
  else if address = 0x19#8 then x.enables.setWidth 32
  else if address = 0x1A#8 then x.deadline.urgent.setWidth 32
  else if address = 0x1B#8 then x.deadline.routine.setWidth 32
  else if address = 0x1C#8 then x.threshold
  else 0#32

/-- MISO of a REG_READ frame of `clocked` bytes (R182): the status byte, two bytes 0x00, the four data bytes, the CRC over the
address and the data, then 0x00. -/
def regReadMiso (address : Byte) (value : Word) (clocked : Nat) (status : Byte) : List Byte :=
  let data := wordBytes value
  (status :: 0#8 :: 0#8 :: data ++ crc8 (address :: data) :: List.replicate (clocked - 8) 0#8).take clocked

/-- A REG_READ frame by its bytes after byte 0 (R182): cut before its address byte completes, it is discarded with
FRAME_ERROR; from then on its read is taken, which changes no state. -/
def State.regReadFrame (s : State) (p : Port) (rest : List Byte) : State :=
  match rest with
  | [] => s.brokenFrame p 1
  | address :: more => s.frame p (regReadMiso address (s.readRegister p address) (more.length + 2)) fun t => t

/-- The registers that a host may write (R188). -/
inductive WritableRegister where
  | eventFlags
  | eventEnable
  | deadline (l : Lane)
  | meterThreshold
deriving DecidableEq, Repr

/-- The writable register at an address; any other address names none or a read-only one (R188). -/
def writableAt (address : Byte) : Option WritableRegister :=
  if address = 0x18#8 then some .eventFlags
  else if address = 0x19#8 then some .eventEnable
  else if address = 0x1A#8 then some (.deadline .urgent)
  else if address = 0x1B#8 then some (.deadline .routine)
  else if address = 0x1C#8 then some .meterThreshold
  else none

/-- The address of a writable register (R188). -/
def WritableRegister.address : WritableRegister → Byte
  | .eventFlags => 0x18#8
  | .eventEnable => 0x19#8
  | .deadline .urgent => 0x1A#8
  | .deadline .routine => 0x1B#8
  | .meterThreshold => 0x1C#8

/-- A taken register write (R183): flags cleared (R121), enables replaced (R122), the two low bytes stored as a deadline
(R101), or the threshold stored (R167). -/
def State.writeRegister (s : State) (p : Port) (r : WritableRegister) (value : Word) : State :=
  s.modifyPort p fun x =>
    match r with
    | .eventFlags => x.clearFlags value
    | .eventEnable => x.setEnables value
    | .deadline l => { x with deadline := x.deadline.set l (value.setWidth 16) }
    | .meterThreshold => { x with threshold := value }

/-- The bytes of a good REG_WRITE frame (R183). -/
def regWriteBytes (address : Byte) (value : Word) : List Byte :=
  let covered := 0x82#8 :: address :: wordBytes value
  covered ++ [crc8 covered]

/-- A good register write frame of seven bytes. -/
def State.registerFrame (s : State) (p : Port) (r : WritableRegister) (value : Word) : State :=
  s.frame p (statusOnly 7) fun t => t.writeRegister p r value

/-- A REG_WRITE frame by its bytes (R183): taken, or discarded with FRAME_ERROR. Bytes after byte 6 are ignored. -/
def State.regWriteFrame (s : State) (p : Port) (bytes : List Byte) : State :=
  match bytes with
  | kind :: address :: d3 :: d2 :: d1 :: d0 :: crc :: _ =>
    if kind ≠ 0x82#8 then s
    else if crc8 [kind, address, d3, d2, d1, d0] ≠ crc then s.brokenFrame p bytes.length
    else
      match writableAt address with
      | some r => s.frame p (statusOnly bytes.length) fun t => t.writeRegister p r (bytesWord d3 d2 d1 d0)
      | none => s.brokenFrame p bytes.length
  | kind :: _ => if kind ≠ 0x82#8 then s else s.brokenFrame p bytes.length
  | [] => s

/-- A register frame by its bytes: byte 0 tells a read from a write (R171). -/
def State.regFrame (s : State) (p : Port) (bytes : List Byte) : State :=
  match bytes with
  | [] => s
  | kind :: rest => if kind = 0x81#8 then s.regReadFrame p rest else s.regWriteFrame p bytes

end Machine
end Sys2Proof
end

