-- ==== Sys2Proof/Machine/Sessions.lean ====
section
/-! DEFINITION. Port sessions: ATTACH, DETACH, FORCE_DETACH, the detach work list and its completion (chapter 8). -/

namespace Sys2Proof
namespace Machine

/-! ## ATTACH -/

/-- What ATTACH does to its own port (R131): epoch, sequence counter, tokens, deadlines, meters, latched flags except
HUB_RESET, session state. -/
def PortState.attach (x : PortState) : PortState :=
  { x with
    epoch := x.epoch + 1, sequence := 0#16, tokens := x.config.bucketDepth
    deadline := { urgent := 0#16, routine := 0#16 }, meters := Meters.zero
    latched := x.latched &&& LatchedFlag.hubReset.mask, session := .attached }

/-- ATTACH from the session step on (R130, R131). -/
def attachBody (p : Port) (_args : List Byte) (s : State) : StepOutcome :=
  match (s.port p).session with
  | .detaching _ => refuse p .detaching s
  | .attached => refuse p .wrongState s
  | .offline =>
    let t := (s.modifyPort p PortState.attach).announcePeerChange p
    .next (t.answer p .ok [(t.port p).epoch])

/-- ATTACH (R131). -/
def execAttach (p : Port) (args : List Byte) (s : State) : StepOutcome := issue p 0x01#8 args (attachBody p) s

/-! ## DETACH and FORCE_DETACH -/

/-- A detach begins: the port becomes DETACHING, and the engine of the port whose command began it stays EXECUTING (R133,
R134). -/
def State.beginDetach (s : State) (target issuer : Port) : State :=
  (s.modifyPort target fun x => { x with session := .detaching issuer }).modifyPort issuer fun x =>
    { x with engine := .detachInFlight target }

/-- DETACH from the session step on (R133): a claim that the port holds is released, with no CLAIM_LOST. -/
def detachBody (p : Port) (_args : List Byte) (s : State) : StepOutcome :=
  match sessionCheck false p s with
  | some r => refuse p r s
  | none => .next ((s.dropClaimOf p).beginDetach p p)

/-- DETACH (R133). -/
def execDetach (p : Port) (args : List Byte) (s : State) : StepOutcome := issue p 0x02#8 args (detachBody p) s

/-- FORCE_DETACH from the session step on (R134). -/
def forceDetachBody (p : Port) (args : List Byte) (s : State) : StepOutcome :=
  match args with
  | [target] =>
    match sessionCheck false p s <|> claimCheck p s with
    | some r => refuse p r s
    | none =>
      match portOf target with
      | none => refuse p .badArgument s
      | some q =>
        if q = p then refuse p .badArgument s
        else if (s.port q).session ≠ .attached then refuse p .wrongState s
        else .next (s.beginDetach q p)
  | _ => refuse p .badCommand s

/-- FORCE_DETACH (R134). -/
def execForceDetach (p : Port) (args : List Byte) (s : State) : StepOutcome := issue p 0x03#8 args (forceDetachBody p) s

/-! ## The detach work list -/

/-- Whether a port is DETACHING. -/
def State.isDetaching (s : State) (p : Port) : Bool :=
  match (s.port p).session with
  | .detaching _ => true
  | _ => false

/-- An OPEN or HELD message is abandoned: refund, FREE descriptor, and a held message leaves its source's slot (R51, R52,
R136). -/
def State.abandonMessage (s : State) (i : DescIndex) : State :=
  match (s.desc i).state with
  | .opened m => (s.refund m).freeDesc i
  | .held m => ((s.refund m).freeDesc i).emptySlot m.source
  | _ => s

/-- DETACH_ABANDONMENT (R136): one OPEN or HELD message of a detaching port is abandoned, with no notice. -/
def execDetachAbandonment (p : Port) (index : DescIndex) (s : State) : StepOutcome :=
  if s.isDetaching p then
    match (s.desc index).state.undelivered? with
    | some m => if m.source = p then .next (s.abandonMessage index) else .next s
    | none => .next s
  else .next s

/-- FLUSH (R137): the head entry of one queue of a detaching port leaves with outcome DISCARDED. -/
def execFlush (p : Port) (lane : Lane) (s : State) : StepOutcome :=
  if s.isDetaching p then
    match s.head p lane with
    | none => .fault .danglingEntry
    | some none => .next s
    | some (some hd) => .next (s.removeHead p lane hd .discarded)
  else .next s

/-- NOTICE_QUEUE_EMPTYING (R138): the detaching port's notice queue is emptied whole, with no flag. -/
def execNoticeQueueEmptying (p : Port) (s : State) : StepOutcome :=
  if s.isDetaching p then .next (s.modifyPort p fun x => { x with notices := [] }) else .next s

/-- A port leaves every waiter set; no other member is affected (R138). -/
def State.leaveWaiterSets (s : State) (p : Port) : State :=
  s.mapPorts fun _ x =>
    { x with
      inbound :=
        { urgent := { x.inbound.urgent with waiters := x.inbound.urgent.waiters.filter fun w => decide (w ≠ p) }
          routine := { x.inbound.routine with waiters := x.inbound.routine.waiters.filter fun w => decide (w ≠ p) } } }

/-- WAITER_REMOVAL (R138): the detaching port leaves every waiter set and its credit-wait marker is cleared, with no flag. -/
def execWaiterRemoval (p : Port) (s : State) : StepOutcome :=
  if s.isDetaching p then
    .next ((s.leaveWaiterSets p).modifyPort p fun x => { x with creditWait := false })
  else .next s

/-! ## Completion -/

/-- Item 1 is done: the port has no OPEN or HELD message (R135). -/
def State.noUndelivered (s : State) (p : Port) : Bool :=
  s.table.toList.all fun d =>
    match d.state.undelivered? with
    | some m => decide (m.source ≠ p)
    | none => true

/-- The port is in no waiter set (R135, R140). -/
def State.inNoWaiterSet (s : State) (p : Port) : Bool :=
  Port.all.all fun q => decide (p ∉ (s.queue q .urgent).waiters ∧ p ∉ (s.queue q .routine).waiters)

/-- All four items of the detach work list are done (R135). -/
def State.workListDone (s : State) (p : Port) : Bool :=
  s.noUndelivered p && decide ((s.queue p .urgent).entries = []) && decide ((s.queue p .routine).entries = [])
    && decide ((s.port p).notices = []) && s.inNoWaiterSet p && !(s.port p).creditWait

/-- A detach completes when its items are done and, for a FORCE_DETACH, the target's engine has left EXECUTING (R139). -/
def State.detachReady (s : State) (p issuer : Port) : Bool :=
  s.workListDone p && (decide (issuer = p) || !(s.port p).engine.isExecuting)

/-- DETACH_COMPLETION (R139): the port becomes OFFLINE, PEER_CHANGE is set on every other ATTACHED port, DETACHED on a
forced port, and OK is placed in the holder of the port whose command began the detach. -/
def execDetachCompletion (p : Port) (s : State) : StepOutcome :=
  match (s.port p).session with
  | .detaching issuer =>
    if s.detachReady p issuer then
      let offline := (s.modifyPort p fun x => { x with session := .offline }).announcePeerChange p
      let flagged := if issuer = p then offline else offline.raiseOn p .detached
      .next (flagged.answer issuer .ok [])
    else .next s
  | _ => .next s

end Machine
end Sys2Proof
end

