-- ==== Sys2Proof/Machine/Compose.lean ====
section
/-! DEFINITION. Composing messages: OPEN, WRITE and ABANDON, and the handle validation of the source-side commands (R7,
chapter 3). -/

namespace Sys2Proof
namespace Machine

/-- Steps 1 and 2 of a source-side command's handle validation (R7): a descriptor of the handle's generation that is not
FREE, sourced by the issuing port. Step 3, the state, is the command's. -/
def State.sourceSide (s : State) (p : Port) (h : Handle) : Except Result DescState :=
  let d := s.desc (handleIndex h)
  match d.state.message? with
  | none => .error .staleHandle
  | some m =>
    if d.generation ≠ handleGeneration h then .error .staleHandle
    else if m.source ≠ p then .error .notOwner
    else .ok d.state

/-! ## OPEN -/

/-- The message of a taken OPEN (R41). -/
def openedMessage (p : Port) (epoch : BitVec 8) (a : OpenArgs) (chain : List CellIndex) (c : Charge) : Message :=
  { source := p, sourceEpoch := epoch, lane := a.lane, mode := a.mode, length := a.length, chain := chain
    reservedCharge := c.reserved, sharedCharge := c.shared, destinations := a.destinations, tag := a.tag, fault := false }

/-- The credit-wait marker is set by a NO_CREDIT refusal (R28). -/
def State.setMarker (s : State) (p : Port) : State := s.modifyPort p fun x => { x with creditWait := true }

/-- A granted OPEN, in one event at the message table, the cell pool and the credit unit (R41): the charge, the first k cells
of the free list zero-filled, the descriptor OPEN. -/
def State.allocate (s : State) (p : Port) (a : OpenArgs) (i : DescIndex) (c : Charge) : State :=
  let chain := s.freeList.take (cellsFor a.length)
  let charged := s.modifyPort p fun x => x.charge a.lane c
  { charged with
      freeList := s.freeList.drop (cellsFor a.length), pool := chain.foldl Pool.zeroFill s.pool
      table := s.table.set i
        { generation := (s.desc i).generation
          state := .opened (openedMessage p (s.port p).epoch a chain c) } }

/-- OPEN from the session step on (R40). -/
def openBody (p : Port) (args : List Byte) (s : State) : StepOutcome :=
  match args with
  | [lane, l1, l0, dest, mode, t1, t0] =>
    match sessionCheck false p s with
    | some r => refuse p r s
    | none =>
      match openArgs p lane l1 l0 dest mode t1 t0 with
      | none => refuse p .badArgument s
      | some a =>
        if (s.port p).config.outstandingCap ≤ s.outstanding p then refuse p .noDescriptor s
        else
          match s.lowestFree with
          | none => refuse p .noDescriptor s
          | some i =>
            match s.grant p a.lane (cellsFor a.length) with
            | none => refuse p .noCredit (s.setMarker p)
            | some c =>
              if s.freeList.length < cellsFor a.length then .fault .poolExhausted
              else .next ((s.allocate p a i c).answer p .ok (openPayload (s.handleAt i) (cellsFor a.length) c))
  | _ => refuse p .badCommand s

/-- OPEN (R41). -/
def execOpenMessage (p : Port) (args : List Byte) (s : State) : StepOutcome := issue p 0x10#8 args (openBody p) s

/-! ## WRITE -/

/-- WRITE from the session step on (R45, R46, R47). -/
def writeBody (p : Port) (args : List Byte) (s : State) : StepOutcome :=
  match args with
  | h1 :: h0 :: off :: data =>
    match sessionCheck false p s with
    | some r => refuse p r s
    | none =>
      if 256 < off.toNat + data.length then refuse p .range s
      else
        match s.sourceSide p (word16 h1 h0) with
        | .error r => refuse p r s
        | .ok (.opened m) =>
          if m.length < off.toNat + data.length then refuse p .range s
          else
            match wordAddresses m.chain (firstWord off.toNat) (wordCount off.toNat data.length) with
            | none => .fault .brokenChain
            | some addresses =>
              .next (({ s with pool := writeWords off.toNat data (firstWord off.toNat) addresses s.pool }).answer p .ok [])
        | .ok _ => refuse p .wrongState s
  | _ => refuse p .badCommand s

/-- WRITE (R47). -/
def execWrite (p : Port) (args : List Byte) (s : State) : StepOutcome := issue p 0x11#8 args (writeBody p) s

/-! ## ABANDON -/

/-- ABANDON from the session step on (R50, R51, R52). -/
def abandonBody (p : Port) (args : List Byte) (s : State) : StepOutcome :=
  match args with
  | [h1, h0] =>
    match sessionCheck false p s with
    | some r => refuse p r s
    | none =>
      match s.sourceSide p (word16 h1 h0) with
      | .error r => refuse p r s
      | .ok (.live _ _) => refuse p .wrongState s
      | .ok _ => .next ((s.abandonMessage (handleIndex (word16 h1 h0))).answer p .ok [])
  | _ => refuse p .badCommand s

/-- ABANDON (R51). -/
def execAbandon (p : Port) (args : List Byte) (s : State) : StepOutcome := issue p 0x12#8 args (abandonBody p) s

end Machine
end Sys2Proof
end

