-- ==== Sys2Proof/Machine/Posting.lean ====
section
/-! DEFINITION. Posting and pacing: POST, the refill of the token bucket, and the release of a held post (chapter 4). -/

namespace Sys2Proof
namespace Machine

/-! ## POST -/

/-- A POST that goes ahead at once (R57). -/
def postNow (p : Port) (i : DescIndex) (m : Message) (s : State) : StepOutcome :=
  let j := s.judge m
  if j.succeeds m.mode then
    .next (((s.deliverOk i m j).spendTokens p m.cells).answer p .ok (postPayload (s.port p).sequence j))
  else .next ((s.deliverFail m j).answer p (j.reason m.mode).result (refusalPayload j))

/-- A POST decided as held: the descriptor goes from OPEN to HELD and the slot takes its handle (R70). -/
def State.holdPost (s : State) (p : Port) (i : DescIndex) (m : Message) : State :=
  (s.setDesc i { generation := (s.desc i).generation, state := .held m }).modifyPort p fun x =>
    { x with heldPost := some { handle := s.handleAt i, releases := 0 } }

/-- The pacing decision (R56). -/
def postDecision (p : Port) (i : DescIndex) (m : Message) (s : State) : StepOutcome :=
  if (s.port p).pacingOn = false ∨ m.cells ≤ (s.port p).tokens then postNow p i m s
  else if (s.port p).heldPost = none then .next ((s.holdPost p i m).answer p .held [])
  else refuse p .paced s

/-- POST from the session step on (R55). -/
def postBody (p : Port) (args : List Byte) (s : State) : StepOutcome :=
  match args with
  | [h1, h0] =>
    match sessionCheck false p s with
    | some r => refuse p r s
    | none =>
      match s.sourceSide p (word16 h1 h0) with
      | .error r => refuse p r s
      | .ok (.opened m) => postDecision p (handleIndex (word16 h1 h0)) m s
      | .ok _ => refuse p .wrongState s
  | _ => refuse p .badCommand s

/-- POST (R56). -/
def execPost (p : Port) (args : List Byte) (s : State) : StepOutcome := issue p 0x13#8 args (postBody p) s

/-! ## Refill -/

/-- The HELD message that a handle names, if any (R70). -/
def State.heldMessage (s : State) (h : Handle) : Option Message :=
  let d := s.desc (handleIndex h)
  match d.state with
  | .held m => if d.generation = handleGeneration h then some m else none
  | _ => none

/-- A refill reloads the counter to PI and adds one token below BD (R66). -/
def PortState.refill (x : PortState) : PortState :=
  { x with
    refillDue := false, interval := x.config.paceInterval
    tokens := if x.tokens < x.config.bucketDepth then x.tokens + 1 else x.tokens }

/-- The slot after a refill that finds `tokens`: a release is begun if they cover the held message and none begun for it is
pending (R71). -/
def State.slotAfterRefill (s : State) (tokens : Nat) (slot : Option HeldPost) : Option HeldPost :=
  match slot with
  | none => none
  | some hp =>
    match s.heldMessage hp.handle with
    | some m => if hp.releases = 0 ∧ m.cells ≤ tokens then some { hp with releases := 1 } else some hp
    | none => some hp

/-- REFILL (R66, R71): taken when the interval counter has reached the end of its count. -/
def execRefill (p : Port) (s : State) : StepOutcome :=
  if (s.port p).refillDue then
    .next (s.modifyPort p fun x =>
      { x.refill with heldPost := s.slotAfterRefill x.refill.tokens x.heldPost })
  else .next s

/-! ## Release of a held post -/

/-- One begun release is no longer pending (R71). -/
def State.endRelease (s : State) (p : Port) (hp : HeldPost) : State :=
  s.modifyPort p fun x => { x with heldPost := some { hp with releases := hp.releases - 1 } }

/-- The POSTED notice of a successful release (R73). -/
def postedNotice (h : Handle) (m : Message) (seq : BitVec 16) (j : Judgement) : Notice :=
  .posted h m.tag seq j.accepting j.offline j.full

/-- The POST_FAILED notice of a failed release (R74). -/
def postFailedNotice (h : Handle) (m : Message) (j : Judgement) : Notice :=
  .postFailed h m.tag (j.reason m.mode) j.offline j.full

/-- A taken release runs the delivery step (R73, R74). -/
def State.runRelease (s : State) (p : Port) (h : Handle) (m : Message) : State :=
  let i := handleIndex h
  let j := s.judge m
  if j.succeeds m.mode then
    (((s.deliverOk i m j).spendTokens p m.cells).emptySlot p).offer p (postedNotice h m (s.port p).sequence j)
  else
    (((s.setDesc i { generation := (s.desc i).generation, state := .opened m }).deliverFail m j).emptySlot p).offer p
      (postFailedNotice h m j)

/-- RELEASE_OF_HELD_POST (R71): a begun release is taken if its port is ATTACHED and pacing is off or the tokens cover the
message; otherwise slot and message are left as they stand. -/
def execReleaseOfHeldPost (p : Port) (s : State) : StepOutcome :=
  match (s.port p).heldPost with
  | none => .next s
  | some hp =>
    if hp.releases = 0 then .next s
    else
      match s.heldMessage hp.handle with
      | none => .fault .lostHeldPost
      | some m =>
        if (s.port p).session = .attached ∧ ((s.port p).pacingOn = false ∨ m.cells ≤ (s.port p).tokens) then
          .next (s.runRelease p hp.handle m)
        else .next (s.endRelease p hp)

end Machine
end Sys2Proof
end

