-- ==== Sys2Proof/Machine/Consumption.lean ====
section
/-! DEFINITION. Consuming inbound messages: PEEK, READ and DONE (chapter 5), and the expiry of entries (chapter 6). -/

namespace Sys2Proof
namespace Machine

/-! ## PEEK -/

/-- The queue that a PEEK selects: ANY serves URGENT first (R85). -/
def State.selectLane (s : State) (p : Port) : Selection → Lane
  | .lane l => l
  | .any => if (s.queue p .urgent).entries = [] then .routine else .urgent

/-- PEEK from the session step on (R85, R86). -/
def peekBody (p : Port) (args : List Byte) (s : State) : StepOutcome :=
  match args with
  | [selection] =>
    match sessionCheck false p s with
    | some r => refuse p r s
    | none =>
      match selectionOf selection with
      | none => refuse p .badArgument s
      | some sel =>
        match s.head p (s.selectLane p sel) with
        | none => .fault .danglingEntry
        | some none => refuse p .empty s
        | some (some hd) =>
          .next (s.answer p .ok (peekPayload hd s.tick (s.queue p (s.selectLane p sel)).entries.length))
  | _ => refuse p .badCommand s

/-- PEEK (R86). -/
def execPeek (p : Port) (args : List Byte) (s : State) : StepOutcome := issue p 0x20#8 args (peekBody p) s

/-! ## READ -/

/-- The first READ that meets an uncorrectable word sets the message's fault mark (R36). -/
def State.setFault (s : State) (i : DescIndex) (m : Message) (d : Delivery) : State :=
  s.setDesc i { generation := (s.desc i).generation, state := .live { m with fault := true } d }

/-- A READ that has passed every check, over the addresses of its words (R17, R90). -/
def readTaken (p : Port) (hd : Head) (offset count : Nat) (addresses : List Nat) (s : State) : StepOutcome :=
  let r := readWords addresses s.pool
  let t := { s with pool := r.pool }
  let payload := payloadBytes r.words offset count
  if r.uncorrectable then
    .next ((t.setFault (handleIndex hd.entry.handle) hd.message hd.delivery).answer p .dataFault payload)
  else .next (t.answer p .ok payload)

/-- READ from the session step on (R89, R90). -/
def readBody (p : Port) (args : List Byte) (s : State) : StepOutcome :=
  match args with
  | [h1, h0, off, count] =>
    match sessionCheck false p s with
    | some r => refuse p r s
    | none =>
      if count.toNat = 0 ∨ 64 < count.toNat then refuse p .badArgument s
      else if 256 < off.toNat + count.toNat then refuse p .range s
      else
        match s.headLane p (word16 h1 h0) with
        | none => refuse p .staleHandle s
        | some l =>
          match s.head p l with
          | some (some hd) =>
            if hd.message.length < off.toNat + count.toNat then refuse p .range s
            else
              match wordAddresses hd.message.chain (firstWord off.toNat) (wordCount off.toNat count.toNat) with
              | none => .fault .brokenChain
              | some addresses => readTaken p hd off.toNat count.toNat addresses s
          | _ => .fault .danglingEntry
  | _ => refuse p .badCommand s

/-- READ (R90). -/
def execRead (p : Port) (args : List Byte) (s : State) : StepOutcome := issue p 0x21#8 args (readBody p) s

/-! ## DONE -/

/-- DONE from the session step on (R92). -/
def doneBody (p : Port) (args : List Byte) (s : State) : StepOutcome :=
  match args with
  | [h1, h0] =>
    match sessionCheck false p s with
    | some r => refuse p r s
    | none =>
      match s.headLane p (word16 h1 h0) with
      | none => refuse p .staleHandle s
      | some l =>
        match s.head p l with
        | some (some hd) =>
          .next (((s.removeHead p l hd .consumed).countMeters p fun x =>
            { x with consumed := satAdd x.consumed 1 }).answer p .ok [])
        | _ => .fault .danglingEntry
  | _ => refuse p .badCommand s

/-- DONE (R92). -/
def execDone (p : Port) (args : List Byte) (s : State) : StepOutcome := issue p 0x22#8 args (doneBody p) s

/-! ## Examination and expiry -/

/-- An examination series of a queue ends (R102). -/
def State.endSeries (s : State) (p : Port) (l : Lane) : State := s.modifyQueue p l fun q => { q with series := false }

/-- Whether an entry's wait, modulo 2^32, has reached a deadline (R100, R102). -/
def waitReached (now : BitVec 32) (e : Entry) (deadline : BitVec 16) : Bool :=
  decide (deadline.toNat * 1000 ≤ (now - e.arrival).toNat)

/-- The EXPIRED notice (R104). -/
def expiredNotice (hd : Head) (l : Lane) : Notice :=
  .expired hd.entry.handle hd.message.tag hd.message.source hd.delivery.sequence l

/-- An expiry, in one event (R103). -/
def State.expire (s : State) (p : Port) (l : Lane) (hd : Head) : State :=
  ((s.removeHead p l hd .expired).offer p (expiredNotice hd l)).countMeters p fun x =>
    { x with expiries := satAdd x.expiries 1 }

/-- EXAMINATION (R102): one examination of a running series. -/
def execExamination (p : Port) (lane : Lane) (s : State) : StepOutcome :=
  if (s.queue p lane).series then
    if (s.port p).deadline.get lane = 0#16 then .next (s.endSeries p lane)
    else
      match s.head p lane with
      | none => .fault .danglingEntry
      | some none => .next (s.endSeries p lane)
      | some (some hd) =>
        if waitReached s.tick hd.entry ((s.port p).deadline.get lane) then .next (s.expire p lane hd)
        else .next (s.endSeries p lane)
  else .next s

/-- EXPIRY (R103): the examination of a running series that finds the head entry at its deadline. Without one, no entry
expires (log entry 15). -/
def execExpiry (p : Port) (lane : Lane) (s : State) : StepOutcome :=
  if (s.queue p lane).series ∧ (s.port p).deadline.get lane ≠ 0#16 then
    match s.head p lane with
    | none => .fault .danglingEntry
    | some none => .next s
    | some (some hd) =>
      if waitReached s.tick hd.entry ((s.port p).deadline.get lane) then .next (s.expire p lane hd) else .next s
  else .next s

end Machine
end Sys2Proof
end

