-- ==== Sys2Proof/Machine/Accounts.lean ====
section
/-! DEFINITION. What a port learns of itself: NOTICES, ACCOUNT and METERS, and the sampling of the time meters (chapters 2, 7
and 10). -/

namespace Sys2Proof
namespace Machine

/-- NOTICES from the session step on (R115, R116): up to `max` records leave the head of the notice queue. -/
def noticesBody (p : Port) (args : List Byte) (s : State) : StepOutcome :=
  match args with
  | [max] =>
    match sessionCheck true p s with
    | some r => refuse p r s
    | none =>
      if max.toNat = 0 ∨ 4 < max.toNat then refuse p .badArgument s
      else if (s.port p).notices = [] then refuse p .empty s
      else
        .next ((s.modifyPort p fun x => { x with notices := x.notices.drop max.toNat }).answer p .ok
          (noticesPayload ((s.port p).notices.take max.toNat)))
  | _ => refuse p .badCommand s

/-- NOTICES (R116). -/
def execNotices (p : Port) (args : List Byte) (s : State) : StepOutcome := issue p 0x23#8 args (noticesBody p) s

/-- ACCOUNT from the session step on (R38, R130). -/
def accountBody (p : Port) (_args : List Byte) (s : State) : StepOutcome :=
  match sessionCheck true p s with
  | some r => refuse p r s
  | none => .next (s.answer p .ok (accountPayload (s.port p) (s.outstanding p)))

/-- ACCOUNT (R38). -/
def execAccount (p : Port) (args : List Byte) (s : State) : StepOutcome := issue p 0x30#8 args (accountBody p) s

/-- METERS from the session step on (R169): the meters as they stand, and zeroed in the same event if `zero` is yes. -/
def metersBody (p : Port) (args : List Byte) (s : State) : StepOutcome :=
  match args with
  | [zero] =>
    match sessionCheck true p s with
    | some r => refuse p r s
    | none =>
      match yesNoOf zero with
      | none => refuse p .badArgument s
      | some z =>
        let t := if z then s.countMeters p fun _ => Meters.zero else s
        .next (t.answer p .ok (metersPayload (s.port p).meters))
  | _ => refuse p .badCommand s

/-- METERS (R169). -/
def execMeters (p : Port) (args : List Byte) (s : State) : StepOutcome := issue p 0x31#8 args (metersBody p) s

/-- A port's total charged cells (R164). -/
def PortState.charged (x : PortState) : Nat := x.reservedUse.urgent + x.reservedUse.routine + x.borrowed

/-- Whether an addition to BORROW_MS crosses the threshold from below (R168). -/
def crosses (threshold before after : Nat) : Bool := decide (threshold ≠ 0 ∧ before < threshold ∧ threshold ≤ after)

/-- One sampling of a port's time meters (R164), with the threshold test (R168). -/
def PortState.sample (x : PortState) : PortState :=
  let borrow := satAdd x.meters.borrowMs x.borrowed
  let sampled :=
    { x with
      samplesDue := x.samplesDue - 1
      meters := { x.meters with heldCellMs := satAdd x.meters.heldCellMs x.charged, borrowMs := borrow } }
  if crosses x.threshold.toNat x.meters.borrowMs borrow then sampled.raise .meterLimit else sampled

/-- SAMPLING_EVENT (R164): taken once for each delivered mark. -/
def execSamplingEvent (p : Port) (s : State) : StepOutcome :=
  if (s.port p).samplesDue = 0 then .next s else .next (s.modifyPort p PortState.sample)

end Machine
end Sys2Proof
end

