-- ==== Sys2Proof/Machine/Claims.lean ====
section
/-! DEFINITION. The configuration claim, its lease, and the configuration records (chapter 9). -/

namespace Sys2Proof
namespace Machine

/-! ## CLAIM and RELEASE -/

/-- CLAIM from the session step on (R152). -/
def claimBody (p : Port) (_args : List Byte) (s : State) : StepOutcome :=
  match sessionCheck false p s with
  | some r => refuse p r s
  | none =>
    if s.claim = none ∨ s.holdsClaim p then
      .next ((s.grantClaim p).answer p .ok [])
    else refuse p .claimHeld s

/-- CLAIM (R152). -/
def execClaim (p : Port) (args : List Byte) (s : State) : StepOutcome := issue p 0x40#8 args (claimBody p) s

/-- RELEASE from the session step on (R154). -/
def releaseBody (p : Port) (_args : List Byte) (s : State) : StepOutcome :=
  match sessionCheck false p s <|> claimCheck p s with
  | some r => refuse p r s
  | none => .next (s.dropClaim.answer p .ok [])

/-- RELEASE (R154). -/
def execRelease (p : Port) (args : List Byte) (s : State) : StepOutcome := issue p 0x41#8 args (releaseBody p) s

/-! ## The lease -/

/-- The lease falls by one at a mark's event; at 0 the claim expires and the former holder has CLAIM_LOST set (R155). -/
def State.lowerLease (s : State) : State :=
  match s.claim with
  | none => s
  | some c =>
    if c.lease ≤ 1 then s.dropClaim.raiseOn c.holder .claimLost
    else { s with claim := some { c with lease := c.lease - 1 } }

/-- LEASE_DECREMENT (R155): taken once for each mark delivered while the claim is held. -/
def execLeaseDecrement (s : State) : StepOutcome :=
  if s.leaseDue then .next ({ s with leaseDue := false }).lowerLease else .next s

/-- Whether the next lowering of the lease brings it to 0 (R155). -/
def State.leaseEnding (s : State) : Bool :=
  match s.claim with
  | some c => decide (c.lease ≤ 1)
  | none => false

/-- CLAIM_EXPIRY (R155): the lease event that brings the lease to 0. Without one, no claim expires (log entry 15). -/
def execClaimExpiry (s : State) : StepOutcome :=
  if s.leaseDue && s.leaseEnding then .next ({ s with leaseDue := false }).lowerLease else .next s

/-! ## CONFIGURE -/

/-- The value of a field of a record (R148). -/
def PortConfig.field (c : PortConfig) : ConfigField → Nat
  | .reserved l => c.reserved.get l
  | .borrowCeiling => c.borrowCeiling
  | .outstandingCap => c.outstandingCap
  | .paceInterval => c.paceInterval
  | .bucketDepth => c.bucketDepth

/-- A record with one field changed. -/
def PortConfig.setField (c : PortConfig) (f : ConfigField) (v : Nat) : PortConfig :=
  match f with
  | .reserved l => { c with reserved := c.reserved.set l v }
  | .borrowCeiling => { c with borrowCeiling := v }
  | .outstandingCap => { c with outstandingCap := v }
  | .paceInterval => { c with paceInterval := v }
  | .bucketDepth => { c with bucketDepth := v }

/-- The range of a field (R148). -/
def ConfigField.inRange : ConfigField → Nat → Bool
  | .reserved _, v => decide (v ≤ 128)
  | .borrowCeiling, v => decide (v ≤ 512)
  | .outstandingCap, v => decide (1 ≤ v ∧ v ≤ 64)
  | .paceInterval, v => decide (v ≤ 65535)
  | .bucketDepth, v => decide (8 ≤ v ∧ v ≤ 512)

/-- The IN_USE tests (R160). -/
def State.inUse (s : State) (q : Port) (f : ConfigField) (v : Nat) : Bool :=
  let x := s.port q
  match f with
  | .reserved l =>
    let sum := s.totalAllotments - x.config.reserved.get l + v
    decide (v < x.reservedUse.get l ∨ Config.cellCount < sum ∨ Config.cellCount - sum < s.totalBorrowed)
  | .borrowCeiling => decide (v < x.borrowed)
  | .outstandingCap => decide (v < s.outstanding q)
  | .paceInterval => false
  | .bucketDepth => false

/-- A new PACE_INTERVAL restarts or stops the interval counter, which discards a refill not yet taken (R68); a change to 0
begins the release of a held post (R71). -/
def PortState.setPace (x : PortState) (v : Nat) : PortState :=
  { x with
    interval := v, refillDue := false
    heldPost := if v = 0 then x.heldPost.map fun hp => { hp with releases := hp.releases + 1 } else x.heldPost }

/-- The block that reads a changed field applies it to its own port (R149): the pacing unit restarts or stops the interval
counter (R68) or clamps the tokens (R69). -/
def PortState.applyField (x : PortState) (f : ConfigField) (v : Nat) : PortState :=
  let y := { x with config := x.config.setField f v }
  match f with
  | .paceInterval => y.setPace v
  | .bucketDepth => { y with tokens := min y.tokens v }
  | _ => y

/-- Which markers a changed field resolves (R33): all for a lowered allotment, the target's own for a raised allotment or
ceiling. -/
def resolvedBy (q : Port) (f : ConfigField) (old new : Nat) (p : Port) : Bool :=
  match f with
  | .reserved _ => decide (new < old ∨ old < new ∧ p = q)
  | .borrowCeiling => decide (old < new ∧ p = q)
  | _ => false

/-- A CONFIGURE that changes a field, in one event (R161). -/
def State.configureTaken (s : State) (issuer q : Port) (f : ConfigField) (v : Nat) : State :=
  let changed := (s.modifyPort q fun x => x.applyField f v).resolveMarkers
    (resolvedBy q f ((s.port q).config.field f) v)
  changed.raiseWhere (fun p => decide (p ≠ issuer ∧ (s.port p).session = .attached)) .configChanged

/-- CONFIGURE from the session step on (R158 to R161). -/
def configureBody (p : Port) (args : List Byte) (s : State) : StepOutcome :=
  match args with
  | [target, field, v1, v0] =>
    match sessionCheck false p s <|> claimCheck p s with
    | some r => refuse p r s
    | none =>
      match portOf target, fieldOf field with
      | some q, some f =>
        let v := (word16 v1 v0).toNat
        if f.inRange v then
          if s.inUse q f v then refuse p .inUse s
          else if (s.port q).config.field f = v then .next (s.answer p .ok [])
          else .next ((s.configureTaken p q f v).answer p .ok [])
        else refuse p .badArgument s
      | _, _ => refuse p .badArgument s
  | _ => refuse p .badCommand s

/-- CONFIGURE (R161). -/
def execConfigure (p : Port) (args : List Byte) (s : State) : StepOutcome := issue p 0x42#8 args (configureBody p) s

/-- CONFIG_READ from the session step on (R150). -/
def configReadBody (p : Port) (args : List Byte) (s : State) : StepOutcome :=
  match args with
  | [target] =>
    match sessionCheck false p s with
    | some r => refuse p r s
    | none =>
      match portOf target with
      | none => refuse p .badArgument s
      | some q => .next (s.answer p .ok (configPayload q (s.port q).config))
  | _ => refuse p .badCommand s

/-- CONFIG_READ (R150). -/
def execConfigRead (p : Port) (args : List Byte) (s : State) : StepOutcome := issue p 0x43#8 args (configReadBody p) s

end Machine
end Sys2Proof
end

