-- ==== Sys2Proof/Machine/Resets.lean ====
section
/-! DEFINITION. Hub reset and power-on reset (chapter 8), hub time (chapter 6), and storage upsets (R16). -/

namespace Sys2Proof
namespace Machine

/-! ## Hub reset -/

/-- A descriptor after hub reset: FREE, its generation raised by one if it was not FREE (R1, R145). -/
def Descriptor.hubReset (d : Descriptor) : Descriptor :=
  match d.state with
  | .free => d
  | _ => { generation := d.generation + 1, state := .free }

/-- An engine after a hub reset that its port did not issue: an EXECUTING command is dropped with no response, a held
response stays (R146). -/
def Engine.hubReset : Engine → Engine
  | .accepted _ => .idle
  | .detachInFlight _ => .idle
  | .idle => .idle
  | .held r => .held r

/-- A port after hub reset (R145, R146, R126). -/
def PortState.hubReset (x : PortState) : PortState :=
  { x with
    session := .offline, engine := x.engine.hubReset, reservedUse := { urgent := 0, routine := 0 }, borrowed := 0
    creditWait := false, tokens := x.config.bucketDepth, interval := x.config.paceInterval, refillDue := false
    sequence := 0#16, heldPost := none, inbound := { urgent := InboundQueue.reset, routine := InboundQueue.reset }
    notices := [], latched := LatchedFlag.hubReset.mask, meters := Meters.zero }

/-- The hub after a hub reset, before the issuer's answer (R145, R146). -/
def State.hubReset (s : State) : State :=
  { s with
    ports := s.ports.map fun _ x => x.hubReset, table := s.table.map Descriptor.hubReset, freeList := allCells
    claim := none, leaseDue := false }

/-- HUB_RESET from the session step on (R144). -/
def hubResetBody (p : Port) (_args : List Byte) (s : State) : StepOutcome :=
  match sessionCheck false p s <|> claimCheck p s with
  | some r => refuse p r s
  | none => .next (s.hubReset.answer p .ok [])

/-- HUB_RESET (R144). -/
def execHubReset (p : Port) (args : List Byte) (s : State) : StepOutcome := issue p 0x4F#8 args (hubResetBody p) s

/-! ## Power-on reset -/

/-- A chip-select period already begun is lost in a power-on reset (R147). -/
def ChipSelect.lose : ChipSelect → ChipSelect
  | .high => .high
  | .begun _ => .lost
  | .lost => .lost

/-- POWER_ON_RESET (R147), from the fall of RESET_N to its rise as one event: every block at its initialized value. What
stands outside the hub stays: REFCLK, the waiting events, and a chip-select period begun before it, which is lost. -/
def execPowerOnReset (s : State) : StepOutcome :=
  .next
    { State.reset with
      ports := s.ports.map fun _ x => { PortState.reset with chipSelect := x.chipSelect.lose }
      refclk := s.refclk, pending := s.pending }

/-! ## Hub time -/

/-- A mark begins an examination series of a queue; a running series continues (R102). -/
def InboundQueue.beginSeries (q : InboundQueue) : InboundQueue := { q with series := true }

/-- MILLISECOND_MARK (R99): a mark that TICK has reached is delivered to the age monitor, the claim lease and the usage
meters, each of which does its work as events of its own. While the claim is unheld a mark has no lease event (R155). -/
def execMillisecondMark (s : State) : StepOutcome :=
  if s.markDue then
    .next
      { s with
        markDue := false, leaseDue := s.claim.isSome
        ports := s.ports.map fun _ x =>
          { x with
            samplesDue := x.samplesDue + 1
            inbound := { urgent := x.inbound.urgent.beginSeries, routine := x.inbound.routine.beginSeries } } }
  else .next s

/-- One microsecond of a port's interval counter: it falls by one, and at the end of its count its refill is due; it is
stopped while PI is 0 (R66). -/
def PortState.countDown (x : PortState) : PortState :=
  if x.config.paceInterval = 0 then x
  else if x.interval ≤ 1 then { x with refillDue := true }
  else { x with interval := x.interval - 1 }

/-- One microsecond of hub time: TICK rises by one, 4294967295 wraps to 0, and a mark occurs at each multiple of 1000 (R98,
R99). -/
def State.tickOnce (s : State) : State :=
  { s with
    tick := s.tick + 1, markDue := decide ((s.tick + 1).toNat % 1000 = 0)
    ports := s.ports.map fun _ x => x.countDown }

/-- The lowest port whose refill is due. -/
def State.dueRefill (s : State) : Option Port := Port.all.find? fun p => (s.port p).refillDue

/-- The lowest port with a sampling event to take. -/
def State.dueSampling (s : State) : Option Port := Port.all.find? fun p => decide ((s.port p).samplesDue ≠ 0)

/-- What the hub does when no event waits (log entry 2, DESIGN CHOICE): a refill, a mark, or a delivered mark's lease or
sampling event that is due at this microsecond is taken (R66, R99, R155, R164), otherwise one microsecond of hub time
passes. While REFCLK is stopped, hub time stands (R98). -/
def idle (s : State) : StepOutcome :=
  match s.dueRefill with
  | some p => execRefill p s
  | none =>
    if s.markDue then execMillisecondMark s
    else if s.leaseDue then execLeaseDecrement s
    else
      match s.dueSampling with
      | some p => execSamplingEvent p s
      | none => if s.refclk then .next s.tickOnce else .next s

/-! ## Storage upsets -/

/-- STORAGE_UPSET (R16): bits of one stored word or of its check code are disturbed; nothing is reported. -/
def execStorageUpset (cell : CellIndex) (word : Fin 8) (wordBits : Word) (codeBits : BitVec 7) (s : State) :
    StepOutcome :=
  let a := cell.val * 8 + word.val
  .next { s with pool := s.pool.store a ((s.pool.lookup a).upset wordBits codeBits) }

end Machine
end Sys2Proof
end

