-- ==== Sys2Proof/Machine/FrameEvents.lean ====
section
/-! DEFINITION. The rows of the table that are frames of a host port (chapter 11). -/

namespace Sys2Proof
namespace Machine

/-- CS_N_FALL (R172): a chip-select period begins, and the port's status byte is captured. It is byte 0 of MISO of the frame
that the period turns out to be; a period in which no byte completes is none (R171). -/
def execCsNFall (p : Port) (s : State) : StepOutcome :=
  .next (s.modifyPort p fun x => { x with chipSelect := .begun x.statusByte })

/-- COMMAND_FRAME (R175). -/
def execCommandFrame (p : Port) (bytes : List Byte) (s : State) : StepOutcome := .next (s.commandFrame p bytes)

/-- SHORT_FRAME (R176): discarded, FRAME_ERROR set. With no complete byte it is no frame: CS_N rises, which sets no flag and
changes no state (R171, R176). Bytes that are no short command frame leave the hub as it is (log entry 14). -/
def execShortFrame (p : Port) (bytes : List Byte) (s : State) : StepOutcome :=
  if bytes = [] then .next (s.endPeriod p)
  else if isShortFrame bytes then .next (s.brokenFrame p bytes.length)
  else .next s

/-- FETCH (R180, R181). -/
def execFetch (p : Port) (clocked : Nat) (s : State) : StepOutcome := .next (s.fetchFrame p clocked)

/-- REG_READ_FRAME_CUT (R182): one complete byte, then CS_N rises; discarded, FRAME_ERROR set. -/
def execRegReadFrameCut (p : Port) (s : State) : StepOutcome := .next (s.regReadFrame p [])

/-- REG_WRITE (R183), and a register read whose address byte completes (R182, log entry 16). -/
def execRegWrite (p : Port) (bytes : List Byte) (s : State) : StepOutcome := .next (s.regFrame p bytes)

/-- EVENT_FLAGS (R121). -/
def execEventFlags (p : Port) (value : Word) (s : State) : StepOutcome := .next (s.registerFrame p .eventFlags value)

/-- EVENT_ENABLE (R122). -/
def execEventEnable (p : Port) (value : Word) (s : State) : StepOutcome := .next (s.registerFrame p .eventEnable value)

/-- DEADLINE_WRITE (R101). -/
def execDeadlineWrite (p : Port) (lane : Lane) (value : Word) (s : State) : StepOutcome :=
  .next (s.registerFrame p (.deadline lane) value)

/-- METER_THRESHOLD (R167). -/
def execMeterThreshold (p : Port) (value : Word) (s : State) : StepOutcome :=
  .next (s.registerFrame p .meterThreshold value)

/-- The taking of a command whose code names none: BAD_COMMAND at step 2 (R184). -/
def unknownBody (p : Port) (_args : List Byte) (s : State) : StepOutcome := refuse p .badCommand s

/-- UNKNOWN_COMMAND_CODE (R184). A code that names a command, or that is no command code, is no such event (log entry 14). -/
def execUnknownCommandCode (p : Port) (code : Byte) (args : List Byte) (s : State) : StepOutcome :=
  if isCommandByte code && !commandCodes.contains code then issue p code args (unknownBody p) s else .next s

end Machine
end Sys2Proof
end

