-- ==== Sys2Proof/Machine/Dispatch.lean ====
section
/-! DEFINITION. The dispatch: one arm per row of spec/opcode_table.json. -/

namespace Sys2Proof
namespace Machine

-- The effect of one command on everything but the queue.
def exec (i : Instr) (s : State) : Host.Outcome State Fault Refusal :=
  match i with
  | .attach p args => Sys2Proof.Machine.execAttach p args s
  | .detach p args => Sys2Proof.Machine.execDetach p args s
  | .forceDetach p args => Sys2Proof.Machine.execForceDetach p args s
  | .openMessage p args => Sys2Proof.Machine.execOpenMessage p args s
  | .write p args => Sys2Proof.Machine.execWrite p args s
  | .abandon p args => Sys2Proof.Machine.execAbandon p args s
  | .post p args => Sys2Proof.Machine.execPost p args s
  | .peek p args => Sys2Proof.Machine.execPeek p args s
  | .read p args => Sys2Proof.Machine.execRead p args s
  | .done p args => Sys2Proof.Machine.execDone p args s
  | .notices p args => Sys2Proof.Machine.execNotices p args s
  | .account p args => Sys2Proof.Machine.execAccount p args s
  | .meters p args => Sys2Proof.Machine.execMeters p args s
  | .claim p args => Sys2Proof.Machine.execClaim p args s
  | .release p args => Sys2Proof.Machine.execRelease p args s
  | .configure p args => Sys2Proof.Machine.execConfigure p args s
  | .configRead p args => Sys2Proof.Machine.execConfigRead p args s
  | .hubReset p args => Sys2Proof.Machine.execHubReset p args s
  | .commandFrame p bytes => Sys2Proof.Machine.execCommandFrame p bytes s
  | .shortFrame p bytes => Sys2Proof.Machine.execShortFrame p bytes s
  | .fetch p clocked => Sys2Proof.Machine.execFetch p clocked s
  | .regReadFrameCut p => Sys2Proof.Machine.execRegReadFrameCut p s
  | .regWrite p bytes => Sys2Proof.Machine.execRegWrite p bytes s
  | .eventFlags p value => Sys2Proof.Machine.execEventFlags p value s
  | .eventEnable p value => Sys2Proof.Machine.execEventEnable p value s
  | .deadlineWrite p lane value => Sys2Proof.Machine.execDeadlineWrite p lane value s
  | .meterThreshold p value => Sys2Proof.Machine.execMeterThreshold p value s
  | .powerOnReset => Sys2Proof.Machine.execPowerOnReset s
  | .millisecondMark => Sys2Proof.Machine.execMillisecondMark s
  | .examination p lane => Sys2Proof.Machine.execExamination p lane s
  | .expiry p lane => Sys2Proof.Machine.execExpiry p lane s
  | .leaseDecrement => Sys2Proof.Machine.execLeaseDecrement s
  | .claimExpiry => Sys2Proof.Machine.execClaimExpiry s
  | .samplingEvent p => Sys2Proof.Machine.execSamplingEvent p s
  | .refill p => Sys2Proof.Machine.execRefill p s
  | .releaseOfHeldPost p => Sys2Proof.Machine.execReleaseOfHeldPost p s
  | .detachAbandonment p index => Sys2Proof.Machine.execDetachAbandonment p index s
  | .flush p lane => Sys2Proof.Machine.execFlush p lane s
  | .noticeQueueEmptying p => Sys2Proof.Machine.execNoticeQueueEmptying p s
  | .waiterRemoval p => Sys2Proof.Machine.execWaiterRemoval p s
  | .detachCompletion p => Sys2Proof.Machine.execDetachCompletion p s
  | .storageUpset cell word wordBits codeBits => Sys2Proof.Machine.execStorageUpset cell word wordBits codeBits s
  | .unknownCommandCode p code args => Sys2Proof.Machine.execUnknownCommandCode p code args s
  | .csNFall p => Sys2Proof.Machine.execCsNFall p s

end Machine
end Sys2Proof
end

