-- ==== Sys2Proof/Safety.lean ====
section
/-! DEFINITION. What a run of the hub keeps: the laws that the manual states of every moment, as decidable propositions of one
state. -/

namespace Sys2Proof
namespace Safety

open Sys2Proof.Machine

/-! ## Configuration, credit, pacing, claim -/

/-- Every field of every record holds a value within its range (R148), and the sum of the allotments is at most 512 (R24). -/
abbrev ConfigLaw (s : State) : Prop :=
  (∀ p : Port,
    (s.port p).config.reserved.urgent ≤ 128 ∧ (s.port p).config.reserved.routine ≤ 128
      ∧ (s.port p).config.borrowCeiling ≤ 512 ∧ 1 ≤ (s.port p).config.outstandingCap
      ∧ (s.port p).config.outstandingCap ≤ 64 ∧ (s.port p).config.paceInterval ≤ 65535
      ∧ 8 ≤ (s.port p).config.bucketDepth ∧ (s.port p).config.bucketDepth ≤ 512)
    ∧ s.totalAllotments ≤ 512

/-- The reserved cells charged never exceed the allotment, the borrowed cells never the ceiling, and the total borrowed never
the shared capacity (R26). -/
abbrev CreditLaw (s : State) : Prop :=
  (∀ p : Port,
    (s.port p).reservedUse.urgent ≤ (s.port p).config.reserved.urgent
      ∧ (s.port p).reservedUse.routine ≤ (s.port p).config.reserved.routine
      ∧ (s.port p).borrowed ≤ (s.port p).config.borrowCeiling)
    ∧ s.totalBorrowed ≤ s.sharedCapacity

/-- A port's outstanding count never exceeds its cap (R14). -/
abbrev CapLaw (s : State) : Prop := ∀ p : Port, s.outstanding p ≤ (s.port p).config.outstandingCap

/-- The tokens never exceed BD (R67), and the interval counter is 1 to PI while PI is 1 or more and stopped with no refill
while PI is 0 (R65, R66). -/
abbrev PacingLaw (s : State) : Prop :=
  ∀ p : Port,
    (s.port p).tokens ≤ (s.port p).config.bucketDepth
      ∧ ((s.port p).config.paceInterval = 0 → (s.port p).interval = 0 ∧ (s.port p).refillDue = false)
      ∧ (1 ≤ (s.port p).config.paceInterval →
          1 ≤ (s.port p).interval ∧ (s.port p).interval ≤ (s.port p).config.paceInterval)

/-- The holder of the claim is ATTACHED, and the lease is 1 to 2000 (R151). -/
abbrev ClaimLaw (s : State) : Prop :=
  ∀ p : Port, s.holdsClaim p = true →
    (s.port p).session = .attached ∧ 1 ≤ (s.claim.map Claim.lease).getD 0 ∧ (s.claim.map Claim.lease).getD 0 ≤ 2000

/-- A lease event is due for a held claim alone (R155), and what a mark brings is delivered and taken at the mark's own
microsecond: none of it is left over when the next mark occurs (R99, R155, R164). -/
abbrev MarkLaw (s : State) : Prop :=
  (s.leaseDue = true → s.claim ≠ none)
    ∧ (s.markDue = true → s.leaseDue = false ∧ ∀ p : Port, (s.port p).samplesDue = 0)
    ∧ (∀ p : Port, (s.port p).samplesDue ≤ 1)
    ∧ ((s.markDue = true ∨ s.leaseDue = true ∨ ∃ p : Port, (s.port p).samplesDue ≠ 0) → s.tick.toNat % 1000 = 0)

/-! ## Queues, notices, flags -/

/-- An inbound queue holds at most 32 entries (R78), and a waiter set with members belongs to a queue that holds 32 (R81). -/
abbrev QueueLaw (s : State) : Prop :=
  ∀ (p : Port) (l : Lane),
    (s.queue p l).entries.length ≤ 32 ∧ ((s.queue p l).waiters ≠ [] → (s.queue p l).entries.length = 32)

/-- A notice queue holds at most 16 records (R110). -/
abbrev NoticeLaw (s : State) : Prop := ∀ p : Port, (s.port p).notices.length ≤ 16

/-- No latch stands in the position of a state flag (R119). -/
abbrev FlagLaw (s : State) : Prop := ∀ p : Port, (s.port p).latched &&& latchedPositions = (s.port p).latched

/-- A meter never passes 4294967295 (R163). -/
abbrev MeterLaw (s : State) : Prop :=
  ∀ p : Port,
    (s.port p).meters.heldCellMs ≤ 4294967295 ∧ (s.port p).meters.borrowMs ≤ 4294967295
      ∧ (s.port p).meters.posts ≤ 4294967295 ∧ (s.port p).meters.postedCells ≤ 4294967295
      ∧ (s.port p).meters.refusals ≤ 4294967295 ∧ (s.port p).meters.consumed ≤ 4294967295
      ∧ (s.port p).meters.expiries ≤ 4294967295

/-! ## Messages, cells and charges -/

/-- The messages that the table holds. -/
def messages (s : State) : List Message := s.table.toList.filterMap fun d => d.state.message?

/-- Every message has 1 to 256 bytes, as many cells as its length asks for, a charge split that covers its chain (R30), and
one to three destinations without its source, in ascending order (R2, R39). -/
abbrev MessageLaw (s : State) : Prop :=
  ∀ m ∈ messages s,
    1 ≤ m.length ∧ m.length ≤ 256 ∧ m.chain.length = cellsFor m.length
      ∧ m.reservedCharge + m.sharedCharge = m.chain.length ∧ m.destinations ≠ [] ∧ m.source ∉ m.destinations
      ∧ m.destinations = Port.all.filter fun p => decide (p ∈ m.destinations)

/-- Each cell is on the free list or in the chain of exactly one message (R23). -/
abbrev CellLaw (s : State) : Prop := (s.freeList ++ (messages s).flatMap Message.chain).Perm allCells

/-- The reserved cells that a port's messages on a lane are charged. -/
def reservedSum (s : State) (p : Port) (l : Lane) : Nat :=
  ((messages s).map fun m => if m.source = p ∧ m.lane = l then m.reservedCharge else 0).sum

/-- The shared cells that a port's messages are charged. -/
def sharedSum (s : State) (p : Port) : Nat :=
  ((messages s).map fun m => if m.source = p then m.sharedCharge else 0).sum

/-- Each port's charged totals equal the sums of the charges over the messages it sourced (R30). -/
abbrev ChargeLaw (s : State) : Prop :=
  ∀ p : Port,
    (s.port p).reservedUse.urgent = reservedSum s p .urgent ∧ (s.port p).reservedUse.routine = reservedSum s p .routine
      ∧ (s.port p).borrowed = sharedSum s p

/-- The free cells equal the unused allotments plus the unused shared capacity (R30). -/
abbrev FreeCellLaw (s : State) : Prop :=
  s.freeList.length
    = sumPorts (fun p =>
        ((s.port p).config.reserved.urgent - (s.port p).reservedUse.urgent)
          + ((s.port p).config.reserved.routine - (s.port p).reservedUse.routine))
      + (s.sharedCapacity - s.totalBorrowed)

/-! ## Entries and deliveries -/

/-- Every entry names a LIVE descriptor under its own handle (R91). -/
abbrev EntryLaw (s : State) : Prop :=
  ∀ (p : Port) (l : Lane), ∀ e ∈ (s.queue p l).entries, (s.liveEntry e).isSome = true

/-- How many entries of a queue carry a handle. -/
def entryCount (s : State) (p : Port) (l : Lane) (h : Handle) : Nat :=
  (s.queue p l).entries.countP fun e => decide (e.handle = h)

/-- How many records of a delivery are PENDING for a port. -/
def pendingCount (d : Delivery) (p : Port) : Nat := d.outcomes.countP fun r => decide (r = (p, .pending))

/-- A LIVE message has one entry on its lane for each PENDING record and no other, readers remaining equals the number of
PENDING records and is 1 or more, and there is one record for each accepted destination, in order (R3, R78, R91). -/
abbrev DeliveryLaw (s : State) : Prop :=
  ∀ i : DescIndex,
    match (s.desc i).state with
    | .live m d =>
      1 ≤ d.readers ∧ d.readers = (d.outcomes.countP fun r => decide (r.2 = .pending))
        ∧ d.outcomes.map Prod.fst = d.accepted
        ∧ (∀ p : Port, entryCount s p m.lane (s.handleAt i) = pendingCount d p ∧ pendingCount d p ≤ 1)
        ∧ (∀ (p : Port) (l : Lane), l ≠ m.lane → entryCount s p l (s.handleAt i) = 0)
    | _ => True

/-- A LIVE message's accepted and refusal sets split its requested destinations, and mode ALL refuses none (R3). -/
abbrev SplitLaw (s : State) : Prop :=
  ∀ i : DescIndex,
    match (s.desc i).state with
    | .live m d =>
      (d.accepted ++ d.refusedOffline ++ d.refusedFull).Perm m.destinations ∧ d.accepted ≠ []
        ∧ (m.mode = .all → d.refusedOffline = [] ∧ d.refusedFull = [])
    | _ => True

/-- A held-post slot names a HELD message of its own port, and a HELD message stands in its source's slot (R70). -/
abbrev HeldLaw (s : State) : Prop :=
  (∀ p : Port,
    match (s.port p).heldPost with
    | none => True
    | some hp => ((s.heldMessage hp.handle).map Message.source) = some p)
    ∧ ∀ i : DescIndex,
        match (s.desc i).state with
        | .held m => ((s.port m.source).heldPost.map HeldPost.handle) = some (s.handleAt i)
        | _ => True

/-! ## Sessions -/

/-- A port is DETACHING by a port's command exactly while that port's engine carries its detach (R133, R134, R139). -/
abbrev DetachLaw (s : State) : Prop :=
  ∀ p q : Port, (s.port p).session = .detaching q ↔ (s.port q).engine = .detachInFlight p

/-- An OFFLINE port has no OPEN or HELD message, empty queues, an empty notice queue, no place in a waiter set and a clear
credit-wait marker (R140). -/
abbrev OfflineLaw (s : State) : Prop := ∀ p : Port, (s.port p).session = .offline → s.workListDone p = true

/-- The words of the pool stand in their canonical form. -/
abbrev PoolLaw (s : State) : Prop := Pool.wf s.pool

/-! ## Commands and frames, as the statements speak of them -/

/-- The port, code and argument bytes of a row that a host's command frame asks for (R186), `none` for every other row. -/
def commandRow : Instr → Option (Port × Byte × List Byte)
  | .attach p args => some (p, 0x01#8, args)
  | .detach p args => some (p, 0x02#8, args)
  | .forceDetach p args => some (p, 0x03#8, args)
  | .openMessage p args => some (p, 0x10#8, args)
  | .write p args => some (p, 0x11#8, args)
  | .abandon p args => some (p, 0x12#8, args)
  | .post p args => some (p, 0x13#8, args)
  | .peek p args => some (p, 0x20#8, args)
  | .read p args => some (p, 0x21#8, args)
  | .done p args => some (p, 0x22#8, args)
  | .notices p args => some (p, 0x23#8, args)
  | .account p args => some (p, 0x30#8, args)
  | .meters p args => some (p, 0x31#8, args)
  | .claim p args => some (p, 0x40#8, args)
  | .release p args => some (p, 0x41#8, args)
  | .configure p args => some (p, 0x42#8, args)
  | .configRead p args => some (p, 0x43#8, args)
  | .hubReset p args => some (p, 0x4F#8, args)
  | .unknownCommandCode p code args => if isCommandByte code && !commandCodes.contains code then some (p, code, args) else none
  | .commandFrame _ _ => none
  | .shortFrame _ _ => none
  | .fetch _ _ => none
  | .regReadFrameCut _ => none
  | .regWrite _ _ => none
  | .eventFlags _ _ => none
  | .eventEnable _ _ => none
  | .deadlineWrite _ _ _ => none
  | .meterThreshold _ _ => none
  | .powerOnReset => none
  | .millisecondMark => none
  | .examination _ _ => none
  | .expiry _ _ => none
  | .leaseDecrement => none
  | .claimExpiry => none
  | .samplingEvent _ => none
  | .refill _ => none
  | .releaseOfHeldPost _ => none
  | .detachAbandonment _ _ => none
  | .flush _ _ => none
  | .noticeQueueEmptying _ => none
  | .waiterRemoval _ => none
  | .detachCompletion _ => none
  | .storageUpset _ _ _ _ => none
  | .csNFall _ => none

/-- The port engine has accepted the frame of this command, which is not yet taken (R175, R178). -/
abbrev Accepted (s : State) (p : Port) (code : Byte) (args : List Byte) : Prop :=
  (s.port p).engine = .accepted (CommandFrame.of code args)

/-- The port's engine holds a response, and nothing else of the port differs (R178). -/
def holding (x : PortState) (r : Result) (payload : List Byte) : PortState :=
  { x with engine := .held { result := r, payload := payload } }

/-- The hub after a command whose one effect is its response, the lease of a holder's port renewed (R178, R153). -/
def answered (s : State) (p : Port) (r : Result) (payload : List Byte) : State :=
  (s.renewLease p).setPort p (holding (s.port p) r payload)

/-- No chip-select period of the port was lost in a power-on reset (R147): its frames are taken. -/
abbrev Listening (s : State) (p : Port) : Prop := (s.port p).chipSelect ≠ .lost

/-- The status byte that the port's frame returns: the captured one, or the one that stands where the frame row carries its
own fall of CS_N (R172, log entry 5). -/
def capturedStatus (x : PortState) : Byte :=
  match x.chipSelect with
  | .begun status => status
  | .high => x.statusByte
  | .lost => x.statusByte

/-- A port after a frame that shifted out its status byte and `rest`. -/
def framed (x : PortState) (rest : List Byte) : PortState :=
  { x with chipSelect := .high, miso := capturedStatus x :: rest }

/-- Nothing but the ports differs. -/
abbrev OnlyPorts (s t : State) : Prop := t = { s with ports := t.ports }

/-- The byte of a stored word at a place, counted from the most significant (R16). -/
def wordByte (w : Word) (place : Nat) : Byte := (wordBytes w).getD place 0#8

/-- The address of the word that holds byte `b` of a message (R16). -/
def byteAddress (m : Message) (b : Nat) : Option Nat := (m.chain[b / 32]?).map fun c => c.val * 8 + b % 32 / 4

/-- Byte `b` of a message as the pool stores it (R16). -/
def storedByte (pool : Pool) (m : Message) (b : Nat) : Option Byte :=
  (byteAddress m b).map fun a => wordByte (pool.lookup a).data (b % 4)

/-- A handle names a descriptor, in state `d`, under its current generation (R6, R7). -/
abbrev Names (s : State) (h : Handle) (d : DescState) : Prop :=
  (s.desc (handleIndex h)).state = d ∧ (s.desc (handleIndex h)).generation = handleGeneration h

/-! ## What a refund, an offer, a removal and a delivery step do to one port -/

/-- A latched flag set where a condition holds. -/
def raisedIf (c : Bool) (f : LatchedFlag) (x : PortState) : PortState := if c then x.raise f else x

/-- Port `q` after the refund of a message (R29): its source's charges fall by the recorded split, and a set credit-wait
marker that the refund qualifies for is cleared with CREDIT_FREED (R32). -/
def refunded (m : Message) (q : Port) (x : PortState) : PortState :=
  let y : PortState :=
    if q = m.source then
      { x with
        reservedUse := x.reservedUse.set m.lane (x.reservedUse.get m.lane - m.reservedCharge)
        borrowed := x.borrowed - m.sharedCharge }
    else x
  if x.creditWait = true ∧ (1 ≤ m.sharedCharge ∨ q = m.source ∧ 1 ≤ m.reservedCharge) then
    { y.raise .creditFreed with creditWait := false }
  else y

/-- A port after an offer of a notice (R111). -/
def offered (n : Notice) (x : PortState) : PortState :=
  if x.session = .attached then
    if x.notices.length < 16 then { x with notices := x.notices ++ [n] } else x.raise .noticeLost
  else x

/-- The outcome records after port `p` has finished (R3). -/
def finishedOutcomes (p : Port) (o : ReaderOutcome) (d : Delivery) : List (Port × ReaderOutcome) :=
  d.outcomes.map fun r => if r.1 = p ∧ r.2 = .pending then (p, o) else r

/-- The RETURNED notice of a message whose last reader `p` has finished (R94). -/
def finalNotice (h : Handle) (m : Message) (d : Delivery) (p : Port) (o : ReaderOutcome) : Notice :=
  .returned h m.tag m.sourceEpoch m.lane m.chain.length m.fault d.refusedOffline d.refusedFull (finishedOutcomes p o d)

/-- Port `q` after the removal, with outcome `o`, of the head entry of queue (p, l), which names message `m` under handle `h`
(R79, R82, R93): the entry leaves, the waiters of a queue that leaves full have QUEUE_SPACE, and the last reader's removal
refunds the message and offers its RETURNED notice. -/
def afterRemoval (s : State) (p : Port) (l : Lane) (h : Handle) (m : Message) (d : Delivery) (o : ReaderOutcome)
    (q : Port) : PortState :=
  let k := s.queue p l
  let full := decide (k.entries.length = 32)
  let left : PortState :=
    if q = p then
      { s.port q with
        inbound := (s.port q).inbound.set l
          { k with entries := k.entries.tail, waiters := if full then [] else k.waiters } }
    else s.port q
  let told := raisedIf (full && decide (q ∈ k.waiters)) .queueSpace left
  if d.readers ≤ 1 then
    let paid := refunded m q told
    if q = m.source then offered (finalNotice h m d p o) paid else paid
  else told

/-- The table and the free list after that removal: every other descriptor unchanged, and the message retired by its last
reader or left LIVE with one reader fewer (R3, R93). -/
def TableAfterRemoval (s t : State) (h : Handle) (m : Message) (d : Delivery) (p : Port) (o : ReaderOutcome) : Prop :=
  (∀ i : DescIndex, i ≠ handleIndex h → t.desc i = s.desc i)
    ∧ t.desc (handleIndex h)
        = (if d.readers ≤ 1 then { generation := handleGeneration h + 1, state := .free }
          else
            { generation := handleGeneration h
              state := .live m { d with outcomes := finishedOutcomes p o d, readers := d.readers - 1 } })
    ∧ t.freeList = if d.readers ≤ 1 then s.freeList ++ m.chain else s.freeList

/-- The destinations that would accept a message now (R58). -/
def wouldAccept (s : State) (m : Message) : List Port :=
  m.destinations.filter fun d =>
    decide ((s.port d).session = .attached ∧ (s.queue d m.lane).entries.length < 32)

/-- The destinations that are refused-offline now (R58). -/
def wouldBeOffline (s : State) (m : Message) : List Port :=
  m.destinations.filter fun d => decide ((s.port d).session ≠ .attached)

/-- The destinations that are refused-full now (R58). -/
def wouldBeFull (s : State) (m : Message) : List Port :=
  m.destinations.filter fun d =>
    decide ((s.port d).session = .attached ∧ 32 ≤ (s.queue d m.lane).entries.length)

/-- A delivery step of the message would succeed now (R59). -/
def WouldDeliver (s : State) (m : Message) : Prop :=
  match m.mode with
  | .all => wouldBeOffline s m = [] ∧ wouldBeFull s m = []
  | .best => wouldAccept s m ≠ []

/-- Why a failing delivery step of the message fails (R59). -/
def failure (s : State) (m : Message) : FailReason :=
  match m.mode with
  | .all => if wouldBeOffline s m ≠ [] then .peerOffline else .queueFull
  | .best => if wouldBeFull s m ≠ [] then .queueFull else .peerOffline

/-- A queue of port `q` on a lane, changed. -/
def withQueue (x : PortState) (l : Lane) (f : InboundQueue → InboundQueue) : PortState :=
  { x with inbound := x.inbound.set l (f (x.inbound.get l)) }

/-- Port `q` after the waiter marks of a delivery step of the message (R62). -/
def marked (s : State) (m : Message) (q : Port) (x : PortState) : PortState :=
  if q ∈ wouldBeFull s m then
    withQueue x m.lane fun k => { k with waiters := Port.all.filter fun w => decide (w = m.source ∨ w ∈ k.waiters) }
  else x

/-- Port `q` after a successful delivery step of the message under handle `h` (R60 to R62, R165), tokens apart. -/
def delivered (s : State) (h : Handle) (m : Message) (q : Port) : PortState :=
  let x := s.port q
  let entered : PortState :=
    if q ∈ wouldAccept s m then
      withQueue x m.lane fun k => { k with entries := k.entries ++ [{ handle := h, arrival := s.tick }] }
    else x
  let y := marked s m q entered
  if q = m.source then
    { y with
      sequence := y.sequence + 1
      meters :=
        { y.meters with
          posts := min (y.meters.posts + 1) 4294967295
          postedCells := min (y.meters.postedCells + m.chain.length) 4294967295
          refusals :=
            min (y.meters.refusals + ((wouldBeOffline s m).length + (wouldBeFull s m).length)) 4294967295 } }
  else y

/-- Port `q` after a failed delivery step of the message (R62, R63, R165). -/
def undelivered (s : State) (m : Message) (q : Port) : PortState :=
  let y := marked s m q (s.port q)
  if q = m.source then
    { y with
      meters :=
        { y.meters with
          refusals :=
            min (y.meters.refusals + ((wouldBeOffline s m).length + (wouldBeFull s m).length)) 4294967295 } }
  else y

/-- The LIVE fields that a successful delivery step sets (R60). -/
def firstDelivery (s : State) (m : Message) : Delivery :=
  { accepted := wouldAccept s m, refusedOffline := wouldBeOffline s m, refusedFull := wouldBeFull s m
    outcomes := (wouldAccept s m).map fun d => (d, .pending), readers := (wouldAccept s m).length
    sequence := (s.port m.source).sequence }

/-- Every descriptor but one is as before, and that one holds `d`. -/
abbrev TableChangesAt (s t : State) (h : Handle) (d : DescState) : Prop :=
  (∀ i : DescIndex, i ≠ handleIndex h → t.desc i = s.desc i)
    ∧ t.desc (handleIndex h) = { generation := handleGeneration h, state := d }

/-- Every descriptor but one is as before, and that one is FREE under its next generation (R11). -/
abbrev TableFreesAt (s t : State) (h : Handle) : Prop :=
  (∀ i : DescIndex, i ≠ handleIndex h → t.desc i = s.desc i)
    ∧ t.desc (handleIndex h) = { generation := handleGeneration h + 1, state := .free }

/-- Pacing lets a message of k cells go ahead: it is off, or the tokens cover it (R56). -/
abbrev PacedThrough (x : PortState) (k : Nat) : Prop := x.config.paceInterval = 0 ∨ k ≤ x.tokens

/-- A port's tokens after a successful delivery step of k cells (R57, R73). -/
def spent (x : PortState) (k : Nat) : Nat := if x.config.paceInterval = 0 then x.tokens else x.tokens - k

/-- What READ returns of a word, and WRITE keeps of it (R17, R18): the corrected word if correctable, else the stored one. -/
def readable (w : StoredWord) : Word := if w.classify = .correctable then w.corrected else w.data

/-- The bytes of OPEN's arguments (R186). -/
def openBytes (l : Lane) (length : Nat) (destinations : List Port) (mode : Mode) (tag : BitVec 16) : List Byte :=
  [laneByte l] ++ be16Of length ++ [setByte destinations, if mode = .all then 0#8 else 1#8] ++ be16 tag

/-- A destination set of OPEN from port `p` (R39): one to three ports in ascending order, the source not among them. -/
abbrev ValidDestinations (p : Port) (ds : List Port) : Prop :=
  ds ≠ [] ∧ p ∉ ds ∧ ds = Port.all.filter fun q => decide (q ∈ ds)

/-- The allowed argument lengths of R186: code, least, greatest. -/
def lengthTable : List (Byte × Nat × Nat) :=
  [(0x01#8, 0, 0), (0x02#8, 0, 0), (0x03#8, 1, 1), (0x10#8, 7, 7), (0x11#8, 4, 67), (0x12#8, 2, 2), (0x13#8, 2, 2),
    (0x20#8, 1, 1), (0x21#8, 4, 4), (0x22#8, 2, 2), (0x23#8, 1, 1), (0x30#8, 0, 0), (0x31#8, 1, 1), (0x40#8, 0, 0),
    (0x41#8, 0, 0), (0x42#8, 4, 4), (0x43#8, 1, 1), (0x4F#8, 0, 0)]

/-- A code with a length that R186 allows. -/
abbrev LengthFits (code : Byte) (n : Nat) : Prop := ∃ r ∈ lengthTable, r.1 = code ∧ r.2.1 ≤ n ∧ n ≤ r.2.2

/-- The events of a descriptor's life that leave it not FREE (R4, R5): staying as it is, OPEN from FREE, HELD or LIVE from
OPEN, OPEN or LIVE from HELD. -/
def MayBecome : DescState → DescState → Prop
  | .free, .opened _ => True
  | .opened _, .opened _ => True
  | .opened _, .held _ => True
  | .opened _, .live _ _ => True
  | .held _, .held _ => True
  | .held _, .opened _ => True
  | .held _, .live _ _ => True
  | .live _ _, .live _ _ => True
  | _, _ => False

/-- Every law of this file. -/
structure Lawful (s : State) : Prop where
  config : ConfigLaw s
  credit : CreditLaw s
  cap : CapLaw s
  pacing : PacingLaw s
  claim : ClaimLaw s
  mark : MarkLaw s
  queue : QueueLaw s
  notice : NoticeLaw s
  flag : FlagLaw s
  meter : MeterLaw s
  message : MessageLaw s
  cell : CellLaw s
  charge : ChargeLaw s
  freeCell : FreeCellLaw s
  entry : EntryLaw s
  delivery : DeliveryLaw s
  split : SplitLaw s
  held : HeldLaw s
  detach : DetachLaw s
  offline : OfflineLaw s
  pool : PoolLaw s

end Safety
end Sys2Proof
end

