-- ==== Sys2Proof/Certificates/Slice0/Obligations.lean ====
section
/-! DEFINITION. The statements of this row, one `def Obligations.<Name> : Prop` each, listed in OBLIGATIONS.json. In each
statement on a command, `Accepted s p code args` says that the port engine has accepted the command's frame. -/

open Sys2Proof Sys2Proof.Machine Sys2Proof.Safety

/-! ## The step, time and resets -/

/-- A step takes the waiting command at the front, with the queue's rest. -/
def Obligations.StepTakesTheFrontCommand : Prop :=
  ∀ (s : State) (c : Instr) (rest : List Instr), s.pending = c :: rest → step s = exec c { s with pending := rest }

/-- THE MODEL'S CHOICE (log entry 2): with no command waiting, a step takes the refill that is due at the lowest port, else a
mark that is due, else the delivered mark's lease event, else its sampling event of the lowest port, else it lets one
microsecond pass: TICK rises by one, a multiple of 1000 makes a mark due (R99), and each running interval counter counts
down or makes its refill due (R66). While REFCLK is stopped, hub time stands (R98). -/
def Obligations.IdleStepPassesTime : Prop :=
  ∀ s : State, s.pending = [] →
    (∀ p, (s.port p).refillDue = true → (∀ q : Port, q.toNat < p.toNat → (s.port q).refillDue = false) →
        step s = exec (.refill p) s)
    ∧ ((∀ p, (s.port p).refillDue = false) → s.markDue = true → step s = exec .millisecondMark s)
    ∧ ((∀ p, (s.port p).refillDue = false) → s.markDue = false → s.leaseDue = true → step s = exec .leaseDecrement s)
    ∧ ((∀ p, (s.port p).refillDue = false) → s.markDue = false → s.leaseDue = false →
        ∀ p, (s.port p).samplesDue ≠ 0 → (∀ q : Port, q.toNat < p.toNat → (s.port q).samplesDue = 0) →
          step s = exec (.samplingEvent p) s)
    ∧ ((∀ p, (s.port p).refillDue = false) → s.markDue = false → s.leaseDue = false →
        (∀ p, (s.port p).samplesDue = 0) → s.refclk = false → step s = .next s)
    ∧ ((∀ p, (s.port p).refillDue = false) → s.markDue = false → s.leaseDue = false →
        (∀ p, (s.port p).samplesDue = 0) → s.refclk = true →
        ∃ t, step s = .next t ∧ t = { s with tick := s.tick + 1#32, markDue := t.markDue, ports := t.ports }
          ∧ (t.markDue = true ↔ t.tick.toNat % 1000 = 0)
          ∧ ∀ p, t.port p =
              if (s.port p).config.paceInterval = 0 then s.port p
              else if (s.port p).interval ≤ 1 then { s.port p with refillDue := true }
              else { s.port p with interval := (s.port p).interval - 1 })

/-- THE MODEL'S CHOICES (log entries 3 and 4). A command row whose frame the engine has not accepted, and whose engine is IDLE,
stands for the good frame of that command arriving and then its taking. A row of the hub's own whose cause does not hold has
no effect: no release begun, no detach in progress, no message to abandon. The status byte of a frame with no period begun
is the model's choice too (log entry 5). -/
def Obligations.ModelRowConventions : Prop :=
  (∀ (c : Instr) (s : State) (p : Port) (code : Byte) (args : List Byte), commandRow c = some (p, code, args) →
    args.length ≤ 255 → (s.port p).engine = .idle → Listening s p →
    exec c s = exec c (s.setPort p
      { framed (s.port p) (List.replicate (args.length + 2) 0#8) with
        engine := .accepted { code := code, length := args.length, args := args.take 72 } }))
  ∧ ∀ (s : State) (p : Port) (i : DescIndex) (l : Lane),
      ((s.port p).heldPost = none → exec (.releaseOfHeldPost p) s = .next s)
      ∧ (∀ h : Handle, (s.port p).heldPost = some { handle := h, releases := 0 } →
          exec (.releaseOfHeldPost p) s = .next s)
      ∧ ((s.port p).session = .attached ∨ (s.port p).session = .offline →
          ∀ c ∈ [Instr.detachAbandonment p i, .flush p l, .noticeQueueEmptying p, .waiterRemoval p, .detachCompletion p],
            exec c s = .next s)
      ∧ ((s.queue p l).entries = [] → exec (.flush p l) s = .next s)
      ∧ ((s.desc i).state.undelivered?.map Message.source ≠ some p → exec (.detachAbandonment p i) s = .next s)

/-- After power-on reset every block holds its initialized value, whatever it held before, and a chip-select period in
hand is lost (R147, R125). That REFCLK and the waiting events, which stand outside the hub, stay is the model's choice
(log entry 10), and the pending events of marks are the model's counts (log entries 2 and 17). -/
def Obligations.PowerOnResetInitializes : Prop :=
  ∀ s : State, ∃ t, exec .powerOnReset s = .next t
    ∧ t.refclk = s.refclk ∧ t.pending = s.pending ∧ t.tick = 0#32 ∧ t.markDue = false ∧ t.leaseDue = false
    ∧ t.claim = none ∧ t.freeList = List.finRange 512 ∧ t.sharedCapacity = 320 ∧ t.totalBorrowed = 0
    ∧ (∀ i : DescIndex, t.desc i = { generation := 0, state := .free })
    ∧ ∀ p : Port,
        (t.port p).session = .offline ∧ (t.port p).epoch = 0#8 ∧ (t.port p).engine = .idle
        ∧ (t.port p).config
            = { reserved := { urgent := 16, routine := 32 }, borrowCeiling := 160, outstandingCap := 32
                paceInterval := 0, bucketDepth := 64 }
        ∧ (t.port p).reservedUse = { urgent := 0, routine := 0 } ∧ (t.port p).borrowed = 0
        ∧ (t.port p).creditWait = false ∧ (t.port p).tokens = 64 ∧ (t.port p).interval = 0
        ∧ (t.port p).refillDue = false ∧ (t.port p).sequence = 0#16 ∧ (t.port p).heldPost = none
        ∧ (∀ l : Lane, t.queue p l = { entries := [], waiters := [], series := false })
        ∧ (t.port p).deadline = { urgent := 0#16, routine := 0#16 } ∧ (t.port p).notices = []
        ∧ (t.port p).eventFlags = 0#15 ∧ (t.port p).enables = 0#15 ∧ (t.port p).attention = false
        ∧ (t.port p).meters = Meters.zero ∧ (t.port p).threshold = 0#32
        ∧ (t.port p).samplesDue = 0 ∧ (t.port p).statusByte = 0#8
        ∧ (t.port p).chipSelect = if (s.port p).chipSelect = .high then .high else .lost

/-- Every law holds after power-on reset, and what R125 and R30 say of it: no flag, no attention, 512 free cells. -/
def Obligations.ResetStateMeetsLaws : Prop :=
  Lawful State.reset ∧ State.reset.freeList.length = 512 ∧ State.reset.sharedCapacity = 320
    ∧ ∀ p : Port, (State.reset.port p).attention = false ∧ (State.reset.port p).eventFlags = 0#15

/-- A hub reset taken from the claim holder (R144 to R146): every descriptor FREE, the full free list, all queues,
waiter sets, notices, charges, markers, held posts and meters cleared, tokens and interval counters reloaded, every port
OFFLINE, the claim released with a lease event that is due, HUB_RESET the only latched flag, engines as R146 gives, and
everything else unchanged. That a due refill and a due lease event go, and a due mark and the pending sampling events stay,
is deduced (log entries 17, 18 and 24). -/
def Obligations.HubResetTaken : Prop :=
  ∀ (p : Port) (s : State), Accepted s p 0x4F#8 [] → (s.port p).session = .attached → s.holdsClaim p = true →
    ∃ t, exec (.hubReset p []) s = .next t
      ∧ t = { s with ports := t.ports, table := t.table, freeList := List.finRange 512, claim := none, leaseDue := false }
      ∧ (∀ i : DescIndex, t.desc i =
          if (s.desc i).state = .free then s.desc i else { generation := (s.desc i).generation + 1, state := .free })
      ∧ ∀ q : Port, t.port q =
          { s.port q with
            session := .offline
            engine :=
              if q = p then .held { result := .ok, payload := [] }
              else if (s.port q).engine.isHeld then (s.port q).engine else .idle
            reservedUse := { urgent := 0, routine := 0 }, borrowed := 0, creditWait := false
            tokens := (s.port q).config.bucketDepth, interval := (s.port q).config.paceInterval, refillDue := false
            sequence := 0#16, heldPost := none
            inbound :=
              { urgent := { entries := [], waiters := [], series := false }
                routine := { entries := [], waiters := [], series := false } }
            notices := [], latched := 1#15 <<< 13, meters := Meters.zero }

/-- A millisecond mark that is due is delivered once: to the age monitor, where every queue has a series running, and as
one pending event each to the lease of a held claim and to every port's meters (R99, R102, R155). That a mark that is not due
changes nothing is the model's choice (log entry 3), and the record of pending events is the model's (log entry 17). -/
def Obligations.MillisecondMarkDelivered : Prop :=
  ∀ s : State,
    (s.markDue = true →
      ∃ t, exec .millisecondMark s = .next t
        ∧ t = { s with ports := t.ports, markDue := false, leaseDue := s.claim.isSome }
        ∧ ∀ p : Port, t.port p =
            { s.port p with
              samplesDue := (s.port p).samplesDue + 1
              inbound :=
                { urgent := { (s.port p).inbound.urgent with series := true }
                  routine := { (s.port p).inbound.routine with series := true } } })
    ∧ (s.markDue = false → exec .millisecondMark s = .next s)

/-- A storage upset flips the given bits of one stored word and of its check code, and changes nothing else: every other
word reads as before (R16). The form of the check code is the model's (log entry 7). -/
def Obligations.StorageUpsetDisturbsOneWord : Prop :=
  ∀ (s : State) (cell : CellIndex) (word : Fin 8) (wordBits : Word) (codeBits : BitVec 7), s.pool.wf →
    ∃ t, exec (.storageUpset cell word wordBits codeBits) s = .next t ∧ t = { s with pool := t.pool }
      ∧ (t.pool.lookup (cell.val * 8 + word.val)).data = (s.pool.lookup (cell.val * 8 + word.val)).data ^^^ wordBits
      ∧ (t.pool.lookup (cell.val * 8 + word.val)).coded = (s.pool.lookup (cell.val * 8 + word.val)).coded
      ∧ (t.pool.lookup (cell.val * 8 + word.val)).codeFlips
          = (s.pool.lookup (cell.val * 8 + word.val)).codeFlips ^^^ codeBits
      ∧ ∀ a : Nat, a ≠ cell.val * 8 + word.val → t.pool.lookup a = s.pool.lookup a

/-! ## Frames and registers -/

/-- The CRC of the two byte runs that R173 works out, and the encodings of R185, R187, R188 and section 11.7 as the
model carries them: flags in their positions, result codes, ports, lanes, PEEK's selections, modes, yes and no, sets of
ports, the fields of CONFIGURE, the outcomes of a RETURNED record; the argument bytes that name nothing. -/
def Obligations.FixedEncodings : Prop :=
  crc8 [0x01#8, 0x00#8] = 0x51#8 ∧ crc8 [0x00#8, 0x01#8, 0x01#8] = 0xAF#8
  ∧ [LatchedFlag.noticeLost, .creditFreed, .queueSpace, .configChanged, .peerChange, .claimLost, .meterLimit, .frameError,
      .overrun, .hubReset, .detached].map LatchedFlag.mask
    = [0x0010#15, 0x0020#15, 0x0040#15, 0x0080#15, 0x0100#15, 0x0200#15, 0x0400#15, 0x0800#15, 0x1000#15, 0x2000#15,
        0x4000#15]
  ∧ [Result.ok, .held, .dataFault, .notAttached, .detaching, .noClaim, .frameCrc, .badCommand, .badArgument, .range,
      .staleHandle, .notOwner, .wrongState, .noDescriptor, .noCredit, .paced, .queueFull, .peerOffline, .empty, .claimHeld,
      .inUse, .noResponse].map Result.code
    = [0x00#8, 0x01#8, 0x02#8, 0x10#8, 0x11#8, 0x18#8, 0x20#8, 0x21#8, 0x22#8, 0x23#8, 0x30#8, 0x31#8, 0x32#8, 0x40#8,
        0x41#8, 0x42#8, 0x43#8, 0x44#8, 0x45#8, 0x46#8, 0x48#8, 0xFF#8]
  ∧ [Lane.urgent, .routine].map laneByte = [0#8, 1#8]
  ∧ [[], [Port.p0], [.p1, .p2], [.p0, .p3], Port.all].map setByte = [0#8, 1#8, 6#8, 9#8, 15#8]
  ∧ [0#8, 1#8, 2#8, 3#8, 4#8, 5#8].map fieldOf
    = [some (.reserved .urgent), some (.reserved .routine), some .borrowCeiling, some .outstandingCap, some .paceInterval,
        some .bucketDepth]
  ∧ (∀ b : Byte, 6 ≤ b.toNat → fieldOf b = none)
  ∧ [0#8, 1#8, 2#8, 3#8].map portOf = [some .p0, some .p1, some .p2, some .p3] ∧ (∀ b : Byte, 4 ≤ b.toNat → portOf b = none)
  ∧ [0#8, 1#8].map laneOf = [some .urgent, some .routine] ∧ (∀ b : Byte, 2 ≤ b.toNat → laneOf b = none)
  ∧ [0#8, 1#8, 2#8].map selectionOf = [some (.lane .urgent), some (.lane .routine), some .any]
  ∧ (∀ b : Byte, 3 ≤ b.toNat → selectionOf b = none)
  ∧ [0#8, 1#8].map modeOf = [some .all, some .best] ∧ (∀ b : Byte, 2 ≤ b.toNat → modeOf b = none)
  ∧ [false, true].map yesNo = [0#8, 1#8] ∧ [0#8, 1#8].map yesNoOf = [some false, some true]
  ∧ (∀ b : Byte, 2 ≤ b.toNat → yesNoOf b = none)
  ∧ [0#8, 1#8, 6#8, 9#8, 15#8].map Machine.setOf = [some [], some [Port.p0], some [.p1, .p2], some [.p0, .p3], some Port.all]
  ∧ (∀ b : Byte, 16 ≤ b.toNat → setOf b = none)
  ∧ [ReaderOutcome.consumed, .expired, .discarded].map outcomeCode = [1, 2, 3]

/-- A handle and its two parts determine one another, and a handle is generation times 128 plus index (R6). -/
def Obligations.HandleParts : Prop :=
  (∀ (g : Fin 512) (i : DescIndex), handleIndex (handleOf g i) = i ∧ handleGeneration (handleOf g i) = g
    ∧ (handleOf g i).toNat = g.val * 128 + i.val)
  ∧ ∀ h : Handle, handleOf (handleGeneration h) (handleIndex h) = h

/-- The port engine reads from a command frame the code and arguments that were sent, keeps 72 argument bytes, and finds the
CRC byte good exactly when it is the CRC of the bytes before it; bytes after it are ignored (R174). A frame cut anywhere
before its CRC byte is none, and is a short frame if it has a complete byte (R176). -/
def Obligations.CommandFrameParsesAsSent : Prop :=
  ∀ (code : Byte) (args : List Byte), isCommandByte code = true → args.length ≤ 255 →
    (∀ (crc : Byte) (after : List Byte),
      parseFrame (code :: BitVec.ofNat 8 args.length :: args ++ crc :: after)
        = some ({ code := code, length := args.length, args := args.take 72 },
            decide (crc = crc8 (code :: BitVec.ofNat 8 args.length :: args))))
    ∧ ∀ n : Nat, n < args.length + 3 →
        parseFrame ((frameBytes code args).take n) = none
        ∧ isShortFrame ((frameBytes code args).take n) = decide (1 ≤ n)

/-- The fall of CS_N captures the port's status byte, which the frame then shifts out as byte 0 of MISO: bit 7 for
RESPONSE_HELD, bit 6 for EXECUTING, bit 5 for the attention condition, bits 4 to 2 for a notice queue and inbound queues
that are not empty, bits 1 and 0 for the session state (R172). A period that ends with no complete byte (that
SHORT_FRAME with no byte stands for it is the model's choice, log entry 5) leaves the hub as it was, and so does one
that a power-on reset lost (R171, R176). -/
def Obligations.ChipSelectFallCapturesStatus : Prop :=
  ∀ (p : Port) (s : State), ∃ b : Byte,
    exec (.csNFall p) s = .next (s.setPort p { s.port p with chipSelect := .begun b })
      ∧ exec (.shortFrame p []) (s.setPort p { s.port p with chipSelect := .begun b })
          = .next (s.setPort p { s.port p with chipSelect := .high })
      ∧ exec (.shortFrame p []) s = .next (s.setPort p { s.port p with chipSelect := .high })
      ∧ b.getLsbD 7 = (s.port p).engine.isHeld
      ∧ b.getLsbD 6 = (s.port p).engine.isExecuting
      ∧ b.getLsbD 5 = decide ((s.port p).eventFlags &&& (s.port p).enables ≠ 0#15)
      ∧ b.getLsbD 4 = decide ((s.port p).notices ≠ [])
      ∧ b.getLsbD 3 = decide ((s.queue p .urgent).entries ≠ [])
      ∧ b.getLsbD 2 = decide ((s.queue p .routine).entries ≠ [])
      ∧ b.extractLsb' 0 2 =
          (match (s.port p).session with
            | .offline => 0#2
            | .attached => 1#2
            | .detaching _ => 2#2)

/-- A complete command frame is decided on its CRC and the command engine (R175): accepted by an IDLE engine if good,
answered FRAME_CRC with FRAME_ERROR if bad; discarded with OVERRUN or FRAME_ERROR by a busy one. MISO carries the status
byte and zeros, and nothing else changes. A frame that finds no period begun returns the status byte that stands (the
model's choice, log entry 5). -/
def Obligations.CommandFrameDecided : Prop :=
  ∀ (p : Port) (s : State) (bytes : List Byte) (f : CommandFrame) (good : Bool),
    parseFrame bytes = some (f, good) → Listening s p →
    exec (.commandFrame p bytes) s = .next (s.setPort p
      (let x := framed (s.port p) (List.replicate (bytes.length - 1) 0#8)
        if (s.port p).engine = .idle then
          if good then { x with engine := .accepted f } else (holding x .frameCrc []).raise .frameError
        else x.raise (if good then .overrun else .frameError)))

/-- A frame cut before its check byte is complete, a REG_READ frame cut before its address byte, and a REG_WRITE frame
that is cut, fails its CRC or names no writable register are discarded: FRAME_ERROR is set and nothing else changes
(R176, R182, R183, R189). A frame of any kind, whole or broken, in a chip-select period that a power-on reset lost is
not taken at all: it sets no flag, and the period is over (R147). The status byte of a frame with no period begun is the
model's choice (log entry 5), and the REG_WRITE row carries a REG_READ frame too (log entry 16). -/
def Obligations.BrokenFramesDiscarded : Prop :=
  (∀ (p : Port) (s : State), Listening s p →
    (∀ bytes : List Byte, isShortFrame bytes = true →
      exec (.shortFrame p bytes) s
        = .next (s.setPort p ((framed (s.port p) (List.replicate (bytes.length - 1) 0#8)).raise .frameError)))
    ∧ exec (.regReadFrameCut p) s = .next (s.setPort p ((framed (s.port p) []).raise .frameError))
    ∧ exec (.regWrite p [0x81#8]) s = .next (s.setPort p ((framed (s.port p) []).raise .frameError))
    ∧ (∀ rest : List Byte, rest.length < 6 →
        exec (.regWrite p (0x82#8 :: rest)) s
          = .next (s.setPort p ((framed (s.port p) (List.replicate rest.length 0#8)).raise .frameError)))
    ∧ ∀ (a d3 d2 d1 d0 crc : Byte) (after : List Byte),
        (crc ≠ crc8 [0x82#8, a, d3, d2, d1, d0] ∨ a ∉ [0x18#8, 0x19#8, 0x1A#8, 0x1B#8, 0x1C#8]) →
        exec (.regWrite p (0x82#8 :: a :: d3 :: d2 :: d1 :: d0 :: crc :: after)) s
          = .next (s.setPort p
              ((framed (s.port p) (List.replicate (after.length + 6) 0#8)).raise .frameError)))
  ∧ (∀ (p : Port) (s : State) (bytes : List Byte) (clocked : Nat) (value : Word) (l : Lane),
    (s.port p).chipSelect = .lost → 1 ≤ clocked →
    ∀ c ∈ [Instr.fetch p clocked, .regReadFrameCut p, .regWrite p (0x81#8 :: bytes), .regWrite p (0x82#8 :: bytes),
        .eventFlags p value, .eventEnable p value, .deadlineWrite p l value, .meterThreshold p value]
        ++ (if (parseFrame bytes).isSome then [.commandFrame p bytes] else [])
        ++ (if isShortFrame bytes then [.shortFrame p bytes] else []),
      exec c s = .next (s.setPort p { s.port p with chipSelect := .high }))

/-- The taken writes of EVENT_ENABLE, DEADLINE_URGENT, DEADLINE_ROUTINE and METER_THRESHOLD store their value in the one
register and change nothing else (R122, R101, R167), and a good REG_WRITE frame of a writable register is that
register's row (R183, R188: which row is which frame is deduced, log entry 16). The status byte of a frame with no
period begun is the model's choice (log entry 5). -/
def Obligations.RegisterWritesStore : Prop :=
  (∀ (p : Port) (s : State) (value : Word), Listening s p →
    exec (.eventEnable p value) s
        = .next (s.setPort p { framed (s.port p) (List.replicate 6 0#8) with enables := value.setWidth 15 })
    ∧ exec (.deadlineWrite p .urgent value) s
        = .next (s.setPort p
            { framed (s.port p) (List.replicate 6 0#8) with
              deadline := { urgent := value.setWidth 16, routine := (s.port p).deadline.routine } })
    ∧ exec (.deadlineWrite p .routine value) s
        = .next (s.setPort p
            { framed (s.port p) (List.replicate 6 0#8) with
              deadline := { urgent := (s.port p).deadline.urgent, routine := value.setWidth 16 } })
    ∧ exec (.meterThreshold p value) s
        = .next (s.setPort p { framed (s.port p) (List.replicate 6 0#8) with threshold := value }))
  ∧ (∀ (p : Port) (s : State) (value : Word),
    exec (.regWrite p (regWriteBytes 0x18#8 value)) s = exec (.eventFlags p value) s
    ∧ exec (.regWrite p (regWriteBytes 0x19#8 value)) s = exec (.eventEnable p value) s
    ∧ exec (.regWrite p (regWriteBytes 0x1A#8 value)) s = exec (.deadlineWrite p .urgent value) s
    ∧ exec (.regWrite p (regWriteBytes 0x1B#8 value)) s = exec (.deadlineWrite p .routine value) s
    ∧ exec (.regWrite p (regWriteBytes 0x1C#8 value)) s = exec (.meterThreshold p value) s)

/-- A write of EVENT_FLAGS clears every latched flag named by a 1 and no other; the state flags, and the rest of the
hub, are as they were (R121, R119). The status byte of a frame with no period begun is the model's choice (log entry 5).
-/
def Obligations.EventFlagsWriteClears : Prop :=
  ∀ (p : Port) (s : State) (value : Word), Listening s p →
    ∃ y : PortState, exec (.eventFlags p value) s = .next (s.setPort p y)
      ∧ y = { framed (s.port p) (List.replicate 6 0#8) with latched := y.latched }
      ∧ (∀ i : Nat, y.latched.getLsbD i = ((s.port p).latched.getLsbD i && !value.getLsbD i))
      ∧ y.stateFlags = (s.port p).stateFlags
      ∧ y.eventFlags = y.latched ||| (s.port p).stateFlags

/-- A FETCH frame returns the status byte, then the held response with its CRC, or NO_RESPONSE, cut to the bytes that
the host clocks; a held response is released exactly when its CRC byte was clocked out, and nothing else changes (R180,
R181). That the decision and the release are one event is deduced (log entry 6). The status byte of a frame with no
period begun is the model's choice (log entry 5). -/
def Obligations.FetchReturnsAndReleases : Prop :=
  ∀ (p : Port) (s : State) (clocked : Nat), 1 ≤ clocked → Listening s p →
    (∀ r : Response, (s.port p).engine = .held r →
      exec (.fetch p clocked) s = .next (s.setPort p
        { framed (s.port p)
            (((r.result.code :: BitVec.ofNat 8 r.payload.length :: r.payload)
                ++ crc8 (r.result.code :: BitVec.ofNat 8 r.payload.length :: r.payload)
                  :: List.replicate (clocked - (r.payload.length + 4)) 0#8).take (clocked - 1)) with
          engine := if r.payload.length + 4 ≤ clocked then .idle else .held r }))
    ∧ ((s.port p).engine.isHeld = false →
        exec (.fetch p clocked) s = .next (s.setPort p
          (framed (s.port p)
            ((0xFF#8 :: 0x00#8 :: crc8 [0xFF#8, 0x00#8] :: List.replicate (clocked - 4) 0#8).take (clocked - 1)))))

/-- The register window (R188): each register shows its owner's state, the bytes of PORT_STATE and the four state flags
(R119) by their conditions, and an address that names no register reads as 0 (R182). A REG_READ frame whose address byte
completes shifts out the captured status byte, two bytes 0x00, the four data bytes, the CRC over the address and the
data, then 0x00, cut to the bytes that the host clocks; it changes nothing else (R182). That the REG_WRITE row carries
such a frame too, and that the read and its frame are one event, is the model's (log entries 6 and 16). The status byte
of a frame with no period begun is the model's choice (log entry 5). -/
def Obligations.RegisterWindowShows : Prop :=
  ∀ (p : Port) (s : State),
    s.readRegister p 0x00#8 = 0x0A450401#32 ∧ s.readRegister p 0x01#8 = s.tick
    ∧ (s.claim = none → s.readRegister p 0x02#8 = 0xFF#32)
    ∧ (∀ q n, s.claim = some { holder := q, lease := n } → s.readRegister p 0x02#8 = BitVec.ofNat 32 q.toNat)
    ∧ s.readRegister p 0x03#8 = BitVec.ofNat 32 s.freeList.length
    ∧ s.readRegister p 0x04#8 = BitVec.ofNat 32 s.sharedCapacity
    ∧ s.readRegister p 0x05#8 = BitVec.ofNat 32 s.totalBorrowed
    ∧ s.readRegister p 0x06#8 = BitVec.ofNat 32 ((List.finRange 128).countP fun i => decide ((s.desc i).state ≠ .free))
    ∧ (s.readRegister p 0x10#8).extractLsb' 24 8
        = (match (s.port p).engine with
            | .idle => 0#8
            | .accepted _ => 1#8
            | .detachInFlight _ => 1#8
            | .held _ => 2#8)
    ∧ (s.readRegister p 0x10#8).extractLsb' 16 8 = (if s.claim.map Claim.holder = some p then 1#8 else 0#8)
    ∧ (s.readRegister p 0x10#8).extractLsb' 8 8 = (s.port p).epoch
    ∧ (s.readRegister p 0x10#8).extractLsb' 0 8
        = (match (s.port p).session with
            | .offline => 0#8
            | .attached => 1#8
            | .detaching _ => 2#8)
    ∧ s.readRegister p 0x11#8 = BitVec.ofNat 32 (s.port p).notices.length
    ∧ ((s.queue p .urgent).entries.length ≤ 32 → (s.queue p .routine).entries.length ≤ 32 →
        (s.readRegister p 0x12#8).toNat
          = 256 * (s.queue p .urgent).entries.length + (s.queue p .routine).entries.length)
    ∧ s.readRegister p 0x18#8 = ((s.port p).latched ||| (s.port p).stateFlags).setWidth 32
    ∧ ((s.port p).stateFlags.getLsbD 0 = true ↔ ∃ r, (s.port p).engine = .held r)
    ∧ ((s.port p).stateFlags.getLsbD 1 = true ↔ (s.port p).notices ≠ [])
    ∧ ((s.port p).stateFlags.getLsbD 2 = true ↔ (s.queue p .urgent).entries ≠ [])
    ∧ ((s.port p).stateFlags.getLsbD 3 = true ↔ (s.queue p .routine).entries ≠ [])
    ∧ (∀ i : Nat, 4 ≤ i → (s.port p).stateFlags.getLsbD i = false)
    ∧ s.readRegister p 0x19#8 = (s.port p).enables.setWidth 32
    ∧ s.readRegister p 0x1A#8 = (s.port p).deadline.urgent.setWidth 32
    ∧ s.readRegister p 0x1B#8 = (s.port p).deadline.routine.setWidth 32
    ∧ s.readRegister p 0x1C#8 = (s.port p).threshold
    ∧ (∀ a : Byte, a ∉ [0x00#8, 0x01#8, 0x02#8, 0x03#8, 0x04#8, 0x05#8, 0x06#8, 0x10#8, 0x11#8, 0x12#8, 0x18#8, 0x19#8, 0x1A#8,
        0x1B#8, 0x1C#8] → s.readRegister p a = 0#32)
    ∧ ∀ (a : Byte) (more : List Byte) (v : Word), Listening s p → v = s.readRegister p a →
        exec (.regWrite p (0x81#8 :: a :: more)) s = .next (s.setPort p (framed (s.port p)
          (([0#8, 0#8, v.extractLsb' 24 8, v.extractLsb' 16 8, v.extractLsb' 8 8, v.extractLsb' 0 8,
              crc8 [a, v.extractLsb' 24 8, v.extractLsb' 16 8, v.extractLsb' 8 8, v.extractLsb' 0 8]]
            ++ List.replicate (more.length - 6) 0#8).take (more.length + 1))))

/-- A held response outlives every event but a FETCH frame of its port and a power-on reset, and its contents do not change
(R179), in states where detaches and engines agree (R133, R134). -/
def Obligations.HeldResponseStays : Prop :=
  ∀ (c : Instr) (s t : State) (p : Port) (r : Response), DetachLaw s → (s.port p).engine = .held r →
    exec c s = .next t →
    (t.port p).engine = .held r ∨ (∃ n : Nat, r.payload.length + 4 ≤ n ∧ c = .fetch p n ∧ (t.port p).engine = .idle)
      ∨ (c = .powerOnReset ∧ (t.port p).engine = .idle)

/-! ## Every command: the check order -/

/-- A command whose code or argument length is not one of R186 is refused with BAD_COMMAND in whatever session state: nothing
else changes, and no lease is renewed (R184 step 2, R153). -/
def Obligations.BadCommandRefused : Prop :=
  ∀ (c : Instr) (s : State) (p : Port) (code : Byte) (args : List Byte), commandRow c = some (p, code, args) →
    args.length ≤ 255 → Accepted s p code args → ¬LengthFits code args.length →
    exec c s = .next (s.setPort p (holding (s.port p) .badCommand []))

/-- The session step (R130): an OFFLINE port may use ATTACH, ACCOUNT, METERS and NOTICES, and every other command of an allowed
length is refused with NOT_ATTACHED; a DETACHING port is refused every command with DETACHING. Nothing else changes. -/
def Obligations.SessionStepRefuses : Prop :=
  ∀ (c : Instr) (s : State) (p : Port) (code : Byte) (args : List Byte), commandRow c = some (p, code, args) →
    Accepted s p code args → LengthFits code args.length →
    ((s.port p).session = .offline → code ∉ [0x01#8, 0x23#8, 0x30#8, 0x31#8] →
      exec c s = .next (answered s p .notAttached []))
    ∧ ∀ q : Port, (s.port p).session = .detaching q → exec c s = .next (answered s p .detaching [])

/-- The claim step (R158): CONFIGURE, FORCE_DETACH, HUB_RESET and RELEASE from an ATTACHED port that does not hold the claim
are refused with NO_CLAIM whatever their arguments, and nothing changes. -/
def Obligations.ClaimStepRefuses : Prop :=
  ∀ (c : Instr) (s : State) (p : Port) (code : Byte) (args : List Byte), commandRow c = some (p, code, args) →
    Accepted s p code args → LengthFits code args.length → code ∈ [0x42#8, 0x03#8, 0x4F#8, 0x41#8] →
    (s.port p).session = .attached → s.holdsClaim p = false →
    exec c s = .next (s.setPort p (holding (s.port p) .noClaim []))

/-- A command of the claim holder's port that passes the code and length check leaves the lease at 2000, whatever its result,
unless it is the DETACH, RELEASE or HUB_RESET that ends the claim; a frame that is no command renews nothing (R153). -/
def Obligations.LeaseRenewedByHolder : Prop :=
  (∀ (c : Instr) (s t : State) (p : Port) (code : Byte) (args : List Byte), commandRow c = some (p, code, args) →
    Accepted s p code args → LengthFits code args.length → code ∉ [0x02#8, 0x41#8, 0x4F#8] → s.holdsClaim p = true →
    exec c s = .next t → t.claim = some { holder := p, lease := 2000 })
  ∧ ∀ (c : Instr) (s t : State) (p : Port) (n : Nat) (l : Lane) (v : Word) (bytes : List Byte),
      c ∈ [Instr.fetch p n, .regReadFrameCut p, .regWrite p bytes, .eventFlags p v, .eventEnable p v, .deadlineWrite p l v,
        .meterThreshold p v, .commandFrame p bytes, .shortFrame p bytes, .csNFall p] →
      exec c s = .next t → t.claim = s.claim

/-! ## Sessions -/

/-- ATTACH (R131): from an OFFLINE port it starts a session in one event and answers the new epoch; an ATTACHED port is
refused with WRONG_STATE. Everything not named is unchanged. -/
def Obligations.AttachStartsSession : Prop :=
  ∀ (p : Port) (s : State), Accepted s p 0x01#8 [] →
    ((s.port p).session = .offline →
      ∃ t, exec (.attach p []) s = .next t ∧ OnlyPorts (s.renewLease p) t
        ∧ t.port p = holding
            { s.port p with
              session := .attached, epoch := (s.port p).epoch + 1#8, sequence := 0#16
              tokens := (s.port p).config.bucketDepth, deadline := { urgent := 0#16, routine := 0#16 }
              meters := Meters.zero, latched := (s.port p).latched &&& (1#15 <<< 13) }
            .ok [(s.port p).epoch + 1#8]
        ∧ ∀ q : Port, q ≠ p → t.port q = raisedIf (decide ((s.port q).session = .attached)) .peerChange (s.port q))
    ∧ ((s.port p).session = .attached → exec (.attach p []) s = .next (answered s p .wrongState []))

/-- DETACH from an ATTACHED port begins its detach (R133): the port is DETACHING, its engine stays EXECUTING, and its claim is
released with no flag. That a lease event that is due goes with the claim is deduced from R155 and R156 (log entry 17).
Nothing else changes. -/
def Obligations.DetachBegins : Prop :=
  ∀ (p : Port) (s : State), Accepted s p 0x02#8 [] → (s.port p).session = .attached →
    exec (.detach p []) s = .next
      ({ s with
          claim := if s.holdsClaim p then none else s.claim
          leaseDue := if s.holdsClaim p then false else s.leaseDue }.setPort p
        { s.port p with session := .detaching p, engine := .detachInFlight p })

/-- FORCE_DETACH from the claim holder (R134): an ATTACHED target becomes DETACHING and the issuer's engine stays EXECUTING; a
target that names no other port is BAD_ARGUMENT, one that is not ATTACHED is WRONG_STATE. Nothing else changes but the renewed
lease. -/
def Obligations.ForceDetachDecided : Prop :=
  ∀ (p : Port) (s : State) (target : Byte), Accepted s p 0x03#8 [target] → (s.port p).session = .attached →
    s.holdsClaim p = true →
    (∀ q : Port, target = BitVec.ofNat 8 q.toNat → q ≠ p →
      ((s.port q).session = .attached →
        ∃ t, exec (.forceDetach p [target]) s = .next t ∧ OnlyPorts (s.renewLease p) t
          ∧ t.port p = { s.port p with engine := .detachInFlight q }
          ∧ t.port q = { s.port q with session := .detaching p }
          ∧ ∀ x : Port, x ≠ p → x ≠ q → t.port x = s.port x)
      ∧ ((s.port q).session ≠ .attached →
        exec (.forceDetach p [target]) s = .next (answered s p .wrongState [])))
    ∧ ((4 ≤ target.toNat ∨ target = BitVec.ofNat 8 p.toNat) →
        exec (.forceDetach p [target]) s = .next (answered s p .badArgument []))

/-- Items 1, 3 and 4 of the detach work list. An OPEN or HELD message of the DETACHING port is abandoned with its refund, its
cells, the freeing of its descriptor and of its slot, and with no notice (R136). The notice queue is emptied whole; the port
leaves every waiter set and its credit-wait marker is cleared; no flag is set (R138). Nothing else changes. -/
def Obligations.DetachWorkItems : Prop :=
  (∀ (p r : Port) (s : State) (i : DescIndex) (m : Message), (s.port p).session = .detaching r →
    ((s.desc i).state = .opened m ∨ (s.desc i).state = .held m) → m.source = p →
    ∃ t, exec (.detachAbandonment p i) s = .next t
      ∧ t = { s with ports := t.ports, table := t.table, freeList := s.freeList ++ m.chain }
      ∧ TableFreesAt s t (s.handleAt i)
      ∧ ∀ q : Port, t.port q =
          (let y := refunded m q (s.port q)
            if q = p ∧ (s.desc i).state = .held m then { y with heldPost := none } else y))
  ∧ (∀ (p r : Port) (s : State), (s.port p).session = .detaching r →
    exec (.noticeQueueEmptying p) s = .next (s.setPort p { s.port p with notices := [] })
    ∧ ∃ t, exec (.waiterRemoval p) s = .next t ∧ OnlyPorts s t
        ∧ ∀ q : Port, t.port q =
            { s.port q with
              creditWait := if q = p then false else (s.port q).creditWait
              inbound :=
                { urgent :=
                    { (s.port q).inbound.urgent with
                      waiters := (s.port q).inbound.urgent.waiters.filter fun w => decide (w ≠ p) }
                  routine :=
                    { (s.port q).inbound.routine with
                      waiters := (s.port q).inbound.routine.waiters.filter fun w => decide (w ≠ p) } } })

/-- Item 2 of the detach work list (R137): the head entry of a queue of the DETACHING port leaves with outcome DISCARDED, with
no meter and no EXPIRED notice. Nothing else changes. -/
def Obligations.FlushDiscardsHead : Prop :=
  ∀ (p r : Port) (s : State) (l : Lane) (e : Entry) (rest : List Entry) (m : Message) (d : Delivery),
    (s.port p).session = .detaching r → (s.queue p l).entries = e :: rest → Names s e.handle (.live m d) →
    ∃ t, exec (.flush p l) s = .next t
      ∧ t = { s with ports := t.ports, table := t.table, freeList := t.freeList }
      ∧ TableAfterRemoval s t e.handle m d p .discarded
      ∧ ∀ q : Port, t.port q = afterRemoval s p l e.handle m d .discarded q

/-- A detach completes once its four items are done and a forced port's engine has left EXECUTING (R139): the port is
OFFLINE, every other ATTACHED port has PEER_CHANGE, a forced port has DETACHED, and OK stands with the port whose
command began the detach. Until then nothing changes. That the done items are read from the state is deduced (log entry
23). -/
def Obligations.DetachCompletes : Prop :=
  ∀ (p r : Port) (s : State), (s.port p).session = .detaching r →
    ((∀ (i : DescIndex) (m : Message), (s.desc i).state = .opened m ∨ (s.desc i).state = .held m → m.source ≠ p) →
      (∀ l : Lane, (s.queue p l).entries = []) → (s.port p).notices = [] → (s.port p).creditWait = false →
      (∀ (q : Port) (l : Lane), p ∉ (s.queue q l).waiters) → (r = p ∨ (s.port p).engine.isExecuting = false) →
      ∃ t, exec (.detachCompletion p) s = .next t ∧ OnlyPorts s t
        ∧ ∀ q : Port, t.port q =
            (let x := if q = p then { s.port q with session := .offline }
              else raisedIf (decide ((s.port q).session = .attached)) .peerChange (s.port q)
              let y := raisedIf (decide (q = p ∧ r ≠ p)) .detached x
              if q = r then holding y .ok [] else y))
    ∧ ((∃ l : Lane, (s.queue p l).entries ≠ []) ∨ (s.port p).notices ≠ [] ∨ (s.port p).creditWait = true
        ∨ (∃ (q : Port) (l : Lane), p ∈ (s.queue q l).waiters) ∨ (r ≠ p ∧ (s.port p).engine.isExecuting = true)
        ∨ (∃ (i : DescIndex) (m : Message), ((s.desc i).state = .opened m ∨ (s.desc i).state = .held m) ∧ m.source = p) →
      exec (.detachCompletion p) s = .next s)

/-! ## Composing -/

/-- OPEN taken (R41, R42, R27, R21, R19, R10): the lowest FREE descriptor, the charge with the lane's allotment first, the
first k cells of the free list in order and filled with zeros, and the handle, k, r and s in the response. Everything not
named is unchanged. -/
def Obligations.OpenTaken : Prop :=
  ∀ (p : Port) (s : State) (l : Lane) (length : Nat) (ds : List Port) (mode : Mode) (tag : BitVec 16) (i : DescIndex)
    (k r sh : Nat),
    1 ≤ length → length ≤ 256 → ValidDestinations p ds → Accepted s p 0x10#8 (openBytes l length ds mode tag) →
    (s.port p).session = .attached → s.outstanding p < (s.port p).config.outstandingCap →
    (s.desc i).state = .free → (∀ j : DescIndex, j < i → (s.desc j).state ≠ .free) →
    k = (length + 31) / 32 → r = min k ((s.port p).config.reserved.get l - (s.port p).reservedUse.get l) → sh = k - r →
    sh ≤ s.sharedCapacity - s.totalBorrowed → (s.port p).borrowed + sh ≤ (s.port p).config.borrowCeiling →
    k ≤ s.freeList.length →
    ∃ t, exec (.openMessage p (openBytes l length ds mode tag)) s = .next t
      ∧ t = { s.renewLease p with
              ports := t.ports, table := t.table, pool := t.pool, freeList := s.freeList.drop k }
      ∧ (∀ q : Port, q ≠ p → t.port q = s.port q)
      ∧ t.port p = holding
          { s.port p with
            reservedUse := (s.port p).reservedUse.set l ((s.port p).reservedUse.get l + r)
            borrowed := (s.port p).borrowed + sh }
          .ok (be16 (s.handleAt i) ++ [BitVec.ofNat 8 k, BitVec.ofNat 8 r, BitVec.ofNat 8 sh])
      ∧ TableChangesAt s t (s.handleAt i)
          (.opened
            { source := p, sourceEpoch := (s.port p).epoch, lane := l, mode := mode, length := length
              chain := s.freeList.take k, reservedCharge := r, sharedCharge := sh, destinations := ds, tag := tag
              fault := false })
      ∧ ∀ a : Nat, t.pool.lookup a =
          if ∃ c ∈ s.freeList.take k, a / 8 = c.val then StoredWord.fresh 0#32 else s.pool.lookup a

/-- OPEN refused (R39, R40, R28): BAD_ARGUMENT for seven bytes that encode no accepted arguments; then NO_DESCRIPTOR at the
cap or with no FREE descriptor; then NO_CREDIT, which alone sets the credit-wait marker. Nothing else changes. -/
def Obligations.OpenRefused : Prop :=
  ∀ (p : Port) (s : State), (s.port p).session = .attached →
    (∀ args : List Byte, args.length = 7 → Accepted s p 0x10#8 args →
      (∀ l length ds mode tag, 1 ≤ length → length ≤ 256 → ValidDestinations p ds → args ≠ openBytes l length ds mode tag) →
      exec (.openMessage p args) s = .next (answered s p .badArgument []))
    ∧ ∀ (l : Lane) (length : Nat) (ds : List Port) (mode : Mode) (tag : BitVec 16),
        1 ≤ length → length ≤ 256 → ValidDestinations p ds → Accepted s p 0x10#8 (openBytes l length ds mode tag) →
        ((((s.port p).config.outstandingCap ≤ s.outstanding p) ∨ ∀ i : DescIndex, (s.desc i).state ≠ .free) →
          exec (.openMessage p (openBytes l length ds mode tag)) s = .next (answered s p .noDescriptor []))
        ∧ (s.outstanding p < (s.port p).config.outstandingCap → (∃ i : DescIndex, (s.desc i).state = .free) →
          ∀ k r sh : Nat, k = (length + 31) / 32 →
            r = min k ((s.port p).config.reserved.get l - (s.port p).reservedUse.get l) → sh = k - r →
            (s.sharedCapacity - s.totalBorrowed < sh ∨ (s.port p).config.borrowCeiling < (s.port p).borrowed + sh) →
          exec (.openMessage p (openBytes l length ds mode tag)) s
            = .next ((s.renewLease p).setPort p (holding { s.port p with creditWait := true } .noCredit [])))

/-- WRITE taken (R47, R18): the data bytes stand in the message at the offset; the other bytes of the words touched are
the ones kept, corrected where the word was correctable; every word touched is clean; no other word, descriptor or port
changes. The class of a word with three or more disturbed bits is free (log entry 8). -/
def Obligations.WriteStoresBytes : Prop :=
  ∀ (p : Port) (s : State) (h : Handle) (off : Byte) (data : List Byte) (m : Message),
    1 ≤ data.length → data.length ≤ 64 → off.toNat + data.length ≤ m.length → m.length ≤ 256 →
    m.length ≤ 32 * m.chain.length → m.chain.Nodup → s.pool.wf →
    Accepted s p 0x11#8 (be16 h ++ off :: data) → (s.port p).session = .attached → Names s h (.opened m) →
    m.source = p →
    ∃ t, exec (.write p (be16 h ++ off :: data)) s = .next t
      ∧ t = { s.renewLease p with ports := t.ports, pool := t.pool }
      ∧ (∀ q : Port, t.port q = if q = p then holding (s.port p) .ok [] else s.port q)
      ∧ (∀ (j : Nat) (hj : j < data.length), storedByte t.pool m (off.toNat + j) = some data[j])
      ∧ (∀ b a : Nat, byteAddress m b = some a → off.toNat / 4 ≤ b / 4 → b / 4 ≤ (off.toNat + data.length - 1) / 4 →
          (t.pool.lookup a).classify = .clean
          ∧ ((b < off.toNat ∨ off.toNat + data.length ≤ b) →
              storedByte t.pool m b = some (wordByte (readable (s.pool.lookup a)) (b % 4))))
      ∧ ∀ a : Nat,
          (∀ b : Nat, off.toNat / 4 ≤ b / 4 → b / 4 ≤ (off.toNat + data.length - 1) / 4 → byteAddress m b ≠ some a) →
          t.pool.lookup a = s.pool.lookup a

/-- The handle validation of WRITE, POST and ABANDON (R7): STALE_HANDLE for a FREE descriptor or another generation,
NOT_OWNER for another port's message, WRONG_STATE for the port's own message in a state that the command does not accept. A
WRITE whose offset and data pass 256 is refused with RANGE before, and one that passes the message's length after. Nothing
else changes. -/
def Obligations.SourceHandleRefusals : Prop :=
  ∀ (p : Port) (s : State) (h : Handle) (off : Byte) (data : List Byte) (c : Instr) (args : List Byte),
    (c = .write p (be16 h ++ off :: data) ∧ args = be16 h ++ off :: data ∧ 1 ≤ data.length ∧ data.length ≤ 64
        ∧ Accepted s p 0x11#8 args
      ∨ c = .post p (be16 h) ∧ args = be16 h ∧ Accepted s p 0x13#8 args
      ∨ c = .abandon p (be16 h) ∧ args = be16 h ∧ Accepted s p 0x12#8 args) →
    (s.port p).session = .attached →
    (c = .write p args → 256 < off.toNat + data.length → exec c s = .next (answered s p .range []))
    ∧ ((c = .write p args → off.toNat + data.length ≤ 256) →
        ((s.desc (handleIndex h)).state = .free ∨ (s.desc (handleIndex h)).generation ≠ handleGeneration h →
          exec c s = .next (answered s p .staleHandle []))
        ∧ ∀ (d : DescState) (m : Message), Names s h d → d.message? = some m →
            (m.source ≠ p → exec c s = .next (answered s p .notOwner []))
            ∧ (m.source = p → ((∃ x, d = .live m x) ∨ (d = .held m ∧ c ≠ .abandon p args)) →
                exec c s = .next (answered s p .wrongState []))
            ∧ (m.source = p → d = .opened m → c = .write p args → m.length < off.toNat + data.length →
                exec c s = .next (answered s p .range [])))

/-- ABANDON of an OPEN or HELD message (R51, R52, R29, R32): the refund, the cells to the tail of the free list, the freeing
of the descriptor under its next generation, and the slot of a held message emptied. Nothing else changes, and there is no
notice. -/
def Obligations.AbandonRefunds : Prop :=
  ∀ (p : Port) (s : State) (h : Handle) (m : Message), Accepted s p 0x12#8 (be16 h) → (s.port p).session = .attached →
    (Names s h (.opened m) ∨ Names s h (.held m)) → m.source = p →
    ∃ t, exec (.abandon p (be16 h)) s = .next t
      ∧ t = { s.renewLease p with ports := t.ports, table := t.table, freeList := s.freeList ++ m.chain }
      ∧ TableFreesAt s t h
      ∧ ∀ q : Port, t.port q =
          (let y := refunded m q (s.port q)
            if q = p then
              holding (if (s.desc (handleIndex h)).state = .held m then { y with heldPost := none } else y) .ok []
            else y)

/-! ## Posting and pacing -/

/-- A POST that pacing lets through and whose delivery step succeeds (R56, R57, R60, R61, R62, R165): an entry in every
accepting queue, the message LIVE with the next sequence number, waiter marks, meters and tokens, and the four fields in the
response. Nothing else changes. -/
def Obligations.PostDelivers : Prop :=
  ∀ (p : Port) (s : State) (h : Handle) (m : Message), Accepted s p 0x13#8 (be16 h) → (s.port p).session = .attached →
    Names s h (.opened m) → m.source = p → PacedThrough (s.port p) m.chain.length → WouldDeliver s m →
    ∃ t, exec (.post p (be16 h)) s = .next t
      ∧ t = { s.renewLease p with ports := t.ports, table := t.table }
      ∧ TableChangesAt s t h (.live m (firstDelivery s m))
      ∧ ∀ q : Port, t.port q =
          if q = p then
            holding { delivered s h m q with tokens := spent (s.port p) m.chain.length }
              .ok (be16 (s.port p).sequence
                ++ [setByte (wouldAccept s m), setByte (wouldBeOffline s m), setByte (wouldBeFull s m)])
          else delivered s h m q

/-- A POST that pacing lets through and whose delivery step fails (R59, R62, R63, R165): QUEUE_FULL or PEER_OFFLINE with the
two refusal sets, the waiter marks and the REFUSALS meter, and nothing else. A POST that the tokens do not cover (R56, R70) is
held with result HELD when the slot is empty, and refused with PACED when it is occupied; nothing else changes. -/
def Obligations.PostNotDelivered : Prop :=
  (∀ (p : Port) (s : State) (h : Handle) (m : Message), Accepted s p 0x13#8 (be16 h) → (s.port p).session = .attached →
    Names s h (.opened m) → m.source = p → PacedThrough (s.port p) m.chain.length → ¬WouldDeliver s m →
    ∃ t, exec (.post p (be16 h)) s = .next t ∧ OnlyPorts (s.renewLease p) t
      ∧ ∀ q : Port, t.port q =
          if q = p then
            holding (undelivered s m q) (failure s m).result [setByte (wouldBeOffline s m), setByte (wouldBeFull s m)]
          else undelivered s m q)
  ∧ (∀ (p : Port) (s : State) (h : Handle) (m : Message), Accepted s p 0x13#8 (be16 h) → (s.port p).session = .attached →
    Names s h (.opened m) → m.source = p → ¬PacedThrough (s.port p) m.chain.length →
    ((s.port p).heldPost = none →
      ∃ t, exec (.post p (be16 h)) s = .next t
        ∧ t = { s.renewLease p with ports := t.ports, table := t.table }
        ∧ TableChangesAt s t h (.held m)
        ∧ ∀ q : Port, t.port q =
            if q = p then holding { s.port p with heldPost := some { handle := h, releases := 0 } } .held [] else s.port q)
    ∧ ((s.port p).heldPost ≠ none → exec (.post p (be16 h)) s = .next (answered s p .paced [])))

/-- A refill (R66, R71): the counter reloads to PI, the tokens rise by one below BD, and a held message that the tokens
then cover has a release begun if none is pending. Nothing else changes; with no refill due, nothing at all (the model's
choice, log entry 3). Begun releases are counted (deduced, log entry 19). -/
def Obligations.RefillAddsToken : Prop :=
  ∀ (p : Port) (s : State),
    ((s.port p).refillDue = true →
      ∀ tokens : Nat, tokens = min ((s.port p).tokens + 1) (max (s.port p).tokens (s.port p).config.bucketDepth) →
      ∃ slot : Option HeldPost,
        exec (.refill p) s = .next (s.setPort p
          { s.port p with
            refillDue := false, interval := (s.port p).config.paceInterval, tokens := tokens, heldPost := slot })
        ∧ ((s.port p).heldPost = none → slot = none)
        ∧ ∀ (hp : HeldPost) (m : Message), (s.port p).heldPost = some hp → Names s hp.handle (.held m) →
            slot = some { handle := hp.handle
                          releases := if hp.releases = 0 ∧ m.chain.length ≤ tokens then 1 else hp.releases })
    ∧ ((s.port p).refillDue = false → exec (.refill p) s = .next s)

/-- A begun release of a held post (R71, R73, R74): taken when the port is ATTACHED and pacing lets the message through,
with a POSTED or POST_FAILED notice, and otherwise left as it stands. Nothing else changes. Begun releases are counted
(deduced, log entry 19). -/
def Obligations.ReleaseOfHeldPost : Prop :=
  ∀ (p : Port) (s : State) (hp : HeldPost) (m : Message), (s.port p).heldPost = some hp → 1 ≤ hp.releases →
    Names s hp.handle (.held m) → m.source = p →
    ((s.port p).session = .attached → PacedThrough (s.port p) m.chain.length → WouldDeliver s m →
      ∃ t, exec (.releaseOfHeldPost p) s = .next t ∧ t = { s with ports := t.ports, table := t.table }
        ∧ TableChangesAt s t hp.handle (.live m (firstDelivery s m))
        ∧ ∀ q : Port, t.port q =
            if q = p then
              offered
                (.posted hp.handle m.tag (s.port p).sequence (wouldAccept s m) (wouldBeOffline s m) (wouldBeFull s m))
                { delivered s hp.handle m q with tokens := spent (s.port p) m.chain.length, heldPost := none }
            else delivered s hp.handle m q)
    ∧ ((s.port p).session = .attached → PacedThrough (s.port p) m.chain.length → ¬WouldDeliver s m →
      ∃ t, exec (.releaseOfHeldPost p) s = .next t ∧ t = { s with ports := t.ports, table := t.table }
        ∧ TableChangesAt s t hp.handle (.opened m)
        ∧ ∀ q : Port, t.port q =
            if q = p then
              offered (.postFailed hp.handle m.tag (failure s m) (wouldBeOffline s m) (wouldBeFull s m))
                { undelivered s m q with heldPost := none }
            else undelivered s m q)
    ∧ (((s.port p).session ≠ .attached ∨ ¬PacedThrough (s.port p) m.chain.length) →
      exec (.releaseOfHeldPost p) s = .next (s.setPort p
        { s.port p with heldPost := some { handle := hp.handle, releases := hp.releases - 1 } }))

/-! ## Consuming -/

/-- PEEK (R85, R86): the head entry of the selected queue with its descriptor's fields and its age, or EMPTY, or BAD_ARGUMENT
for a selection that names none. ANY serves URGENT first. Nothing else changes. -/
def Obligations.PeekReportsHead : Prop :=
  ∀ (p : Port) (s : State) (sel : Byte) (l : Lane), Accepted s p 0x20#8 [sel] → (s.port p).session = .attached →
    (3 ≤ sel.toNat → exec (.peek p [sel]) s = .next (answered s p .badArgument []))
    ∧ ((sel = laneByte l ∨ sel = 2#8 ∧ (l = .urgent ↔ (s.queue p .urgent).entries ≠ [])) →
        ((s.queue p l).entries = [] → exec (.peek p [sel]) s = .next (answered s p .empty []))
        ∧ ∀ (e : Entry) (rest : List Entry) (m : Message) (d : Delivery), (s.queue p l).entries = e :: rest →
            Names s e.handle (.live m d) →
            exec (.peek p [sel]) s = .next (answered s p .ok
              (be16 e.handle ++ [BitVec.ofNat 8 m.source.toNat, m.sourceEpoch] ++ be16 d.sequence ++ be16 m.tag
                ++ be16Of m.length ++ [laneByte m.lane, yesNo m.fault]
                ++ be32Of ((s.tick - e.arrival).toNat / 1000) ++ [BitVec.ofNat 8 (rest.length + 1)])))

/-- READ taken (R90, R17, R35, R36): the requested bytes, of correctable words corrected and of all others as stored;
the correctable words written back clean; DATA_FAULT and the fault mark exactly when a word that was read is
uncorrectable. The entry stays, and nothing else changes. The class of a word with three or more disturbed bits is free
(log entry 8). -/
def Obligations.ReadReturnsBytes : Prop :=
  ∀ (p : Port) (s : State) (off count : Byte) (l : Lane) (e : Entry) (rest : List Entry) (m : Message) (d : Delivery)
    (bad : Prop),
    1 ≤ count.toNat → count.toNat ≤ 64 → off.toNat + count.toNat ≤ m.length → m.length ≤ 256 →
    m.length ≤ 32 * m.chain.length → m.chain.Nodup → s.pool.wf →
    Accepted s p 0x21#8 (be16 e.handle ++ [off, count]) → (s.port p).session = .attached →
    (s.queue p l).entries = e :: rest → Names s e.handle (.live m d) →
    (l = .routine → ((s.queue p .urgent).entries.head?.map Entry.handle) ≠ some e.handle) →
    (bad ↔ ∃ j a : Nat, j < count.toNat ∧ byteAddress m (off.toNat + j) = some a
      ∧ (s.pool.lookup a).classify = .uncorrectable) →
    ∃ (t : State) (payload : List Byte), exec (.read p (be16 e.handle ++ [off, count])) s = .next t
      ∧ payload.length = count.toNat
      ∧ (∀ (j a : Nat) (hj : j < payload.length), byteAddress m (off.toNat + j) = some a →
          payload[j] = wordByte (readable (s.pool.lookup a)) ((off.toNat + j) % 4))
      ∧ t = { s.renewLease p with ports := t.ports, table := t.table, pool := t.pool }
      ∧ (∀ a : Nat,
          ((s.pool.lookup a).classify = .correctable ∧ (∃ j, j < count.toNat ∧ byteAddress m (off.toNat + j) = some a) →
            t.pool.lookup a = StoredWord.fresh (s.pool.lookup a).corrected)
          ∧ (¬((s.pool.lookup a).classify = .correctable
                ∧ ∃ j, j < count.toNat ∧ byteAddress m (off.toNat + j) = some a) →
              t.pool.lookup a = s.pool.lookup a))
      ∧ (bad → (∀ q : Port, t.port q = if q = p then holding (s.port p) .dataFault payload else s.port q)
          ∧ TableChangesAt s t e.handle (.live { m with fault := true } d))
      ∧ (¬bad → (∀ q : Port, t.port q = if q = p then holding (s.port p) .ok payload else s.port q)
          ∧ t.table = s.table)

/-- READ refused (R89): BAD_ARGUMENT for a count outside 1 to 64, RANGE past 256, STALE_HANDLE for a handle at the head of
neither queue, and RANGE past the message's length, in that order. No cell is read and nothing else changes. -/
def Obligations.ReadRefused : Prop :=
  ∀ (p : Port) (s : State) (h : Handle) (off count : Byte), Accepted s p 0x21#8 (be16 h ++ [off, count]) →
    (s.port p).session = .attached →
    (count.toNat = 0 ∨ 64 < count.toNat → exec (.read p (be16 h ++ [off, count])) s = .next (answered s p .badArgument []))
    ∧ (1 ≤ count.toNat → count.toNat ≤ 64 → 256 < off.toNat + count.toNat →
        exec (.read p (be16 h ++ [off, count])) s = .next (answered s p .range []))
    ∧ (1 ≤ count.toNat → count.toNat ≤ 64 → off.toNat + count.toNat ≤ 256 →
        ((∀ l : Lane, ((s.queue p l).entries.head?.map Entry.handle) ≠ some h) →
          exec (.read p (be16 h ++ [off, count])) s = .next (answered s p .staleHandle []))
        ∧ ∀ (l : Lane) (m : Message) (d : Delivery), ((s.queue p l).entries.head?.map Entry.handle) = some h →
            Names s h (.live m d) → m.length < off.toNat + count.toNat →
            exec (.read p (be16 h ++ [off, count])) s = .next (answered s p .range []))

/-- DONE (R92, R88, R93): the head entry with this handle leaves with outcome CONSUMED, CONSUMED counts it, and the last
reader's DONE retires the message; a handle at neither head is STALE_HANDLE. Nothing else changes. -/
def Obligations.DoneConsumesHead : Prop :=
  ∀ (p : Port) (s : State) (h : Handle), Accepted s p 0x22#8 (be16 h) → (s.port p).session = .attached →
    ((∀ l : Lane, ((s.queue p l).entries.head?.map Entry.handle) ≠ some h) →
      exec (.done p (be16 h)) s = .next (answered s p .staleHandle []))
    ∧ ∀ (l : Lane) (m : Message) (d : Delivery), ((s.queue p l).entries.head?.map Entry.handle) = some h →
        (l = .routine → ((s.queue p .urgent).entries.head?.map Entry.handle) ≠ some h) → Names s h (.live m d) →
        ∃ t, exec (.done p (be16 h)) s = .next t
          ∧ t = { s.renewLease p with ports := t.ports, table := t.table, freeList := t.freeList }
          ∧ TableAfterRemoval s t h m d p .consumed
          ∧ ∀ q : Port, t.port q =
              (let y := afterRemoval s p l h m d .consumed q
                if q = p then
                  holding { y with meters := { y.meters with consumed := min (y.meters.consumed + 1) 4294967295 } } .ok []
                else y)

/-- An examination of a running series (R102, R103, R104) ends the series at a deadline of 0, an empty queue or a head
that has not waited the deadline out, and otherwise expires the head: outcome EXPIRED, retirement by the last reader, an
EXPIRED notice, the EXPIRIES meter. The EXPIRY row is that event. Nothing else changes, and nothing at all with no
series running: what the two rows do there, and that they are one event, are the model's (log entries 3 and 15). -/
def Obligations.ExaminationExpiresHead : Prop :=
  ∀ (p : Port) (s : State) (l : Lane),
    ((s.queue p l).series = false → exec (.examination p l) s = .next s ∧ exec (.expiry p l) s = .next s)
    ∧ ((s.queue p l).series = true → ((s.port p).deadline.get l = 0#16 ∨ (s.queue p l).entries = []) →
        exec (.examination p l) s = .next (s.setPort p (withQueue (s.port p) l fun k => { k with series := false }))
        ∧ exec (.expiry p l) s = .next s)
    ∧ ∀ (e : Entry) (rest : List Entry) (m : Message) (d : Delivery), (s.queue p l).series = true →
        (s.port p).deadline.get l ≠ 0#16 → (s.queue p l).entries = e :: rest → Names s e.handle (.live m d) →
        ((s.tick - e.arrival).toNat < ((s.port p).deadline.get l).toNat * 1000 →
          exec (.examination p l) s = .next (s.setPort p (withQueue (s.port p) l fun k => { k with series := false }))
          ∧ exec (.expiry p l) s = .next s)
        ∧ (((s.port p).deadline.get l).toNat * 1000 ≤ (s.tick - e.arrival).toNat →
          ∃ t, exec (.examination p l) s = .next t ∧ exec (.expiry p l) s = .next t
            ∧ t = { s with ports := t.ports, table := t.table, freeList := t.freeList }
            ∧ TableAfterRemoval s t e.handle m d p .expired
            ∧ ∀ q : Port, t.port q =
                (let y := afterRemoval s p l e.handle m d .expired q
                  if q = p then
                    let z := offered (.expired e.handle m.tag m.source d.sequence l) y
                    { z with meters := { z.meters with expiries := min (z.meters.expiries + 1) 4294967295 } }
                  else y))

/-! ## A port's own figures -/

/-- NOTICES (R115, R116): the oldest records, up to max, leave the queue and are returned behind their count; BAD_ARGUMENT for
a max outside 1 to 4; EMPTY from an empty queue. Nothing else changes. A record is sixteen bytes (R187): its kind, handle and
tag, then the fields of the kind, then 0x00. -/
def Obligations.NoticesCollected : Prop :=
  (∀ (p : Port) (s : State) (max : Byte), Accepted s p 0x23#8 [max] →
    ((s.port p).session = .attached ∨ (s.port p).session = .offline) →
    (max.toNat = 0 ∨ 4 < max.toNat → exec (.notices p [max]) s = .next (answered s p .badArgument []))
    ∧ (1 ≤ max.toNat → max.toNat ≤ 4 →
        ((s.port p).notices = [] → exec (.notices p [max]) s = .next (answered s p .empty []))
        ∧ ((s.port p).notices ≠ [] →
          exec (.notices p [max]) s = .next ((s.renewLease p).setPort p
            (holding { s.port p with notices := (s.port p).notices.drop max.toNat } .ok
              (BitVec.ofNat 8 (min max.toNat (s.port p).notices.length)
                :: ((s.port p).notices.take max.toNat).flatMap noticeBytes))))))
  ∧ (∀ (h : Handle) (tag seq : BitVec 16) (epoch : Byte) (l : Lane) (cells : Nat) (fault : Bool) (off full acc : List Port)
    (outs : List (Port × ReaderOutcome)) (reason : FailReason) (q : Port), outs.length ≤ 3 →
    noticeBytes (.returned h tag epoch l cells fault off full outs)
      = [0x01#8] ++ be16 h ++ be16 tag
          ++ [epoch, laneByte l, BitVec.ofNat 8 cells, yesNo fault, setByte off, setByte full]
          ++ outs.map (fun r => BitVec.ofNat 8 (r.1.toNat * 16 + outcomeCode r.2)) ++ List.replicate (5 - outs.length) 0#8
    ∧ noticeBytes (.posted h tag seq acc off full)
      = [0x02#8] ++ be16 h ++ be16 tag ++ be16 seq ++ [setByte acc, setByte off, setByte full, 0#8, 0#8, 0#8, 0#8, 0#8, 0#8]
    ∧ noticeBytes (.postFailed h tag reason off full)
      = [0x03#8] ++ be16 h ++ be16 tag
          ++ [if reason = .queueFull then 0x43#8 else 0x44#8, setByte off, setByte full, 0#8, 0#8, 0#8, 0#8, 0#8, 0#8, 0#8, 0#8]
    ∧ noticeBytes (.expired h tag q seq l)
      = [0x04#8] ++ be16 h ++ be16 tag ++ [BitVec.ofNat 8 q.toNat] ++ be16 seq
          ++ [laneByte l, 0#8, 0#8, 0#8, 0#8, 0#8, 0#8, 0#8])

/-- ACCOUNT and METERS (R38, R169) answer the port's own figures of one event, from an ATTACHED or OFFLINE port; METERS with
zero yes sets the seven meters to 0 after taking their values, and a zero that is neither value is BAD_ARGUMENT. CONFIG_READ
(R150) answers the target's record as it stands. Nothing else changes. -/
def Obligations.PortFiguresReported : Prop :=
  (∀ (p : Port) (s : State), ((s.port p).session = .attached ∨ (s.port p).session = .offline) →
    (Accepted s p 0x30#8 [] →
      exec (.account p []) s = .next (answered s p .ok
        ([BitVec.ofNat 8 (s.port p).config.reserved.urgent, BitVec.ofNat 8 (s.port p).config.reserved.routine,
            BitVec.ofNat 8 (s.port p).reservedUse.urgent, BitVec.ofNat 8 (s.port p).reservedUse.routine]
          ++ be16Of (s.port p).config.borrowCeiling ++ be16Of (s.port p).borrowed
          ++ [BitVec.ofNat 8 (s.outstanding p), BitVec.ofNat 8 (s.port p).config.outstandingCap]
          ++ be16Of (s.port p).tokens ++ be16Of (s.port p).config.paceInterval
          ++ be16Of (s.port p).config.bucketDepth)))
    ∧ ∀ zero : Byte, Accepted s p 0x31#8 [zero] →
        (2 ≤ zero.toNat → exec (.meters p [zero]) s = .next (answered s p .badArgument []))
        ∧ (zero.toNat ≤ 1 →
          exec (.meters p [zero]) s = .next ((s.renewLease p).setPort p
            (holding { s.port p with meters := if zero = 1#8 then Meters.zero else (s.port p).meters } .ok
              (be32Of (s.port p).meters.heldCellMs ++ be32Of (s.port p).meters.borrowMs
                ++ be32Of (s.port p).meters.posts ++ be32Of (s.port p).meters.postedCells
                ++ be32Of (s.port p).meters.refusals ++ be32Of (s.port p).meters.consumed
                ++ be32Of (s.port p).meters.expiries)))))
  ∧ (∀ (p q : Port) (s : State), Accepted s p 0x43#8 [BitVec.ofNat 8 q.toNat] → (s.port p).session = .attached →
    exec (.configRead p [BitVec.ofNat 8 q.toNat]) s = .next (answered s p .ok
      ([BitVec.ofNat 8 q.toNat, BitVec.ofNat 8 (s.port q).config.reserved.urgent,
          BitVec.ofNat 8 (s.port q).config.reserved.routine] ++ be16Of (s.port q).config.borrowCeiling
        ++ [BitVec.ofNat 8 (s.port q).config.outstandingCap] ++ be16Of (s.port q).config.paceInterval
        ++ be16Of (s.port q).config.bucketDepth)))

/-- A sampling event (R164, R168) adds the port's charged cells to HELD_CELL_MS and its borrowed cells to BORROW_MS,
both saturating, and sets METER_LIMIT exactly when BORROW_MS reaches a threshold that is not 0 from below. Nothing else
changes; with no delivered mark left to sample, nothing at all (the model's choice, log entries 3 and 17). -/
def Obligations.SamplingAddsCharge : Prop :=
  ∀ (p : Port) (s : State),
    ((s.port p).samplesDue = 0 → exec (.samplingEvent p) s = .next s)
    ∧ (1 ≤ (s.port p).samplesDue →
      ∀ held borrow : Nat,
        held = min ((s.port p).meters.heldCellMs
          + ((s.port p).reservedUse.urgent + (s.port p).reservedUse.routine + (s.port p).borrowed)) 4294967295 →
        borrow = min ((s.port p).meters.borrowMs + (s.port p).borrowed) 4294967295 →
        exec (.samplingEvent p) s = .next (s.setPort p
          (raisedIf
            (decide ((s.port p).threshold.toNat ≠ 0 ∧ (s.port p).meters.borrowMs < (s.port p).threshold.toNat
              ∧ (s.port p).threshold.toNat ≤ borrow))
            .meterLimit
            { s.port p with
              samplesDue := (s.port p).samplesDue - 1
              meters := { (s.port p).meters with heldCellMs := held, borrowMs := borrow } })))

/-! ## The claim and the configuration -/

/-- CLAIM (R152) is granted or renewed with a lease of 2000 unless another port holds the claim; RELEASE (R154) ends the
holder's claim with no flag. A new grant and a release leave no lease event of an earlier mark. The lease event of a mark
delivered while the claim is held (R155) lowers the lease by one, and a lease that reaches 0 releases the claim with
CLAIM_LOST on the former holder: LEASE_DECREMENT is every such event and CLAIM_EXPIRY the last one. Nothing else
changes, and nothing at all when no delivered mark is left: the two rows are the model's reading (log entries 3, 15 and
17). -/
def Obligations.ClaimLifeCycle : Prop :=
  (∀ (p : Port) (s : State), (s.port p).session = .attached →
    (Accepted s p 0x40#8 [] →
      ((s.claim = none ∨ s.holdsClaim p = true) →
        exec (.claim p []) s
          = .next ({ s with
                claim := some { holder := p, lease := 2000 }
                leaseDue := if s.claim = none then false else s.leaseDue }.setPort p (holding (s.port p) .ok [])))
      ∧ (s.claim ≠ none → s.holdsClaim p = false →
        exec (.claim p []) s = .next (s.setPort p (holding (s.port p) .claimHeld []))))
    ∧ (Accepted s p 0x41#8 [] → s.holdsClaim p = true →
      exec (.release p []) s = .next ({ s with claim := none, leaseDue := false }.setPort p (holding (s.port p) .ok []))))
  ∧ (∀ s : State,
    (s.leaseDue = false → exec .leaseDecrement s = .next s ∧ exec .claimExpiry s = .next s)
    ∧ (s.leaseDue = true → s.claim = none →
      exec .leaseDecrement s = .next { s with leaseDue := false } ∧ exec .claimExpiry s = .next s)
    ∧ ∀ (p : Port) (n : Nat), s.leaseDue = true → s.claim = some { holder := p, lease := n } →
        (2 ≤ n →
          exec .leaseDecrement s
            = .next { s with leaseDue := false, claim := some { holder := p, lease := n - 1 } }
          ∧ exec .claimExpiry s = .next s)
        ∧ (n = 1 →
          exec .leaseDecrement s
            = .next ({ s with leaseDue := false, claim := none }.setPort p ((s.port p).raise .claimLost))
          ∧ exec .claimExpiry s = exec .leaseDecrement s))

/-- The IN_USE tests of CONFIGURE (R160) for a value within its field's range. A target that names no port, a field that
names none, or a value outside its field's range (R148, R159) is refused with BAD_ARGUMENT, and so is CONFIG_READ of no port
(R150). The record and everything else stay as they are. -/
def Obligations.ConfigureRefused : Prop :=
  (∀ (p q : Port) (s : State) (field : Byte) (v : BitVec 16),
    Accepted s p 0x42#8 ([BitVec.ofNat 8 q.toNat, field] ++ be16 v) → (s.port p).session = .attached →
    s.holdsClaim p = true →
    ((∃ l : Lane, field = laneByte l ∧ v.toNat ≤ 128
        ∧ (v.toNat < (s.port q).reservedUse.get l
          ∨ 512 < s.totalAllotments - (s.port q).config.reserved.get l + v.toNat
          ∨ 512 - (s.totalAllotments - (s.port q).config.reserved.get l + v.toNat) < s.totalBorrowed))
      ∨ (field = 2#8 ∧ v.toNat ≤ 512 ∧ v.toNat < (s.port q).borrowed)
      ∨ (field = 3#8 ∧ 1 ≤ v.toNat ∧ v.toNat ≤ 64 ∧ v.toNat < s.outstanding q)) →
    exec (.configure p ([BitVec.ofNat 8 q.toNat, field] ++ be16 v)) s = .next (answered s p .inUse []))
  ∧ (∀ (p : Port) (s : State) (target field : Byte) (v : BitVec 16), (s.port p).session = .attached →
    (Accepted s p 0x42#8 ([target, field] ++ be16 v) → s.holdsClaim p = true →
      (4 ≤ target.toNat ∨ 6 ≤ field.toNat ∨ (field.toNat ≤ 1 ∧ 128 < v.toNat) ∨ (field = 2#8 ∧ 512 < v.toNat)
        ∨ (field = 3#8 ∧ (v.toNat = 0 ∨ 64 < v.toNat)) ∨ (field = 5#8 ∧ (v.toNat < 8 ∨ 512 < v.toNat))) →
      exec (.configure p ([target, field] ++ be16 v)) s = .next (answered s p .badArgument []))
    ∧ (Accepted s p 0x43#8 [target] → 4 ≤ target.toNat →
      exec (.configRead p [target]) s = .next (answered s p .badArgument [])))

/-- CONFIGURE taken (R161, R33, R68, R69, R71): the field, and what its block does with it; every credit-wait marker
that the change resolves; CONFIG_CHANGED on every other ATTACHED port. A value already held changes nothing. Nothing
else changes. That a due refill is discarded, and that begun releases are counted, is deduced (log entries 18 and 19).
-/
def Obligations.ConfigureTaken : Prop :=
  ∀ (p q : Port) (s : State) (v : BitVec 16) (f : ConfigField) (field : Byte),
    fieldOf field = some f → f.inRange v.toNat = true →
    Accepted s p 0x42#8 ([BitVec.ofNat 8 q.toNat, field] ++ be16 v) → (s.port p).session = .attached →
    s.holdsClaim p = true →
    (∀ l : Lane, f = .reserved l → (s.port q).reservedUse.get l ≤ v.toNat
      ∧ s.totalAllotments - (s.port q).config.reserved.get l + v.toNat ≤ 512
      ∧ s.totalBorrowed ≤ 512 - (s.totalAllotments - (s.port q).config.reserved.get l + v.toNat)) →
    (f = .borrowCeiling → (s.port q).borrowed ≤ v.toNat) → (f = .outstandingCap → s.outstanding q ≤ v.toNat) →
    ((s.port q).config.field f = v.toNat →
      exec (.configure p ([BitVec.ofNat 8 q.toNat, field] ++ be16 v)) s = .next (answered s p .ok []))
    ∧ ((s.port q).config.field f ≠ v.toNat →
      ∃ t, exec (.configure p ([BitVec.ofNat 8 q.toNat, field] ++ be16 v)) s = .next t ∧ OnlyPorts (s.renewLease p) t
        ∧ ∀ x : Port, t.port x =
            (let a := s.port x
              let b : PortState :=
                if x = q then
                  { a with
                    config := a.config.setField f v.toNat
                    interval := if f = .paceInterval then v.toNat else a.interval
                    refillDue := if f = .paceInterval then false else a.refillDue
                    heldPost :=
                      if f = .paceInterval ∧ v.toNat = 0 then
                        a.heldPost.map fun hp => { hp with releases := hp.releases + 1 }
                      else a.heldPost
                    tokens := if f = .bucketDepth then min a.tokens v.toNat else a.tokens }
                else a
              let resolves : Bool :=
                a.creditWait &&
                  (match f with
                    | .reserved l => decide (v.toNat < (s.port q).config.reserved.get l ∨ x = q)
                    | .borrowCeiling => decide ((s.port q).config.borrowCeiling < v.toNat ∧ x = q)
                    | .outstandingCap => false
                    | .paceInterval => false
                    | .bucketDepth => false)
              let c : PortState := if resolves then { b.raise .creditFreed with creditWait := false } else b
              let d := raisedIf (decide (x ≠ p ∧ a.session = .attached)) .configChanged c
              if x = p then holding d .ok [] else d))

/-! ## The whole hub -/

/-- The life of a descriptor (R4, R5, R11), whatever happens: a descriptor that is not FREE after an event keeps its
generation, came to its state by an allowed way, and keeps every field that OPEN gave it but the fault mark, which is
never taken back. A descriptor that becomes FREE rises to its next generation, and one that stays FREE keeps it; a
power-on reset sets every generation to 0. -/
def Obligations.DescriptorLifeKept : Prop :=
  ∀ (c : Instr) (s t : State) (i : DescIndex), exec c s = .next t →
    ((t.desc i).state ≠ .free →
      (t.desc i).generation = (s.desc i).generation ∧ MayBecome (s.desc i).state (t.desc i).state
      ∧ ∀ m n : Message, (s.desc i).state.message? = some m → (t.desc i).state.message? = some n →
          n = { m with fault := n.fault } ∧ (m.fault = true → n.fault = true))
    ∧ ((t.desc i).state = .free →
        (t.desc i).generation
          = if c = .powerOnReset then 0
            else if (s.desc i).state = .free then (s.desc i).generation
            else (s.desc i).generation + 1)

/-- What only named events change. Hub time (R98): TICK, by no command but a power-on reset. The epoch and the start of a
session (R129): by ATTACH of that port, a power-on reset apart. The configuration records (R148): by CONFIGURE and power-on
reset. A port's enables, deadlines and threshold (R122, R101, R167): by its own register writes, its ATTACH for the
deadlines, and power-on reset. -/
def Obligations.ProtectedStateKept : Prop :=
  ∀ (c : Instr) (s t : State) (q : Port), exec c s = .next t → c ≠ .powerOnReset →
    t.tick = s.tick ∧ t.refclk = s.refclk ∧ t.pending = s.pending
    ∧ ((t.port q).epoch = (s.port q).epoch ∧ ((t.port q).session = .attached → (s.port q).session = .attached)
        ∨ ∃ args, c = .attach q args ∧ (t.port q).epoch = (s.port q).epoch + 1#8)
    ∧ ((t.port q).config = (s.port q).config ∨ ∃ p args, c = .configure p args)
    ∧ ((t.port q).enables = (s.port q).enables ∨ (∃ v, c = .eventEnable q v) ∨ ∃ bytes, c = .regWrite q bytes)
    ∧ ((t.port q).deadline = (s.port q).deadline ∨ (∃ l v, c = .deadlineWrite q l v) ∨ (∃ bytes, c = .regWrite q bytes)
        ∨ ∃ args, c = .attach q args)
    ∧ ((t.port q).threshold = (s.port q).threshold ∨ (∃ v, c = .meterThreshold q v) ∨ ∃ bytes, c = .regWrite q bytes)

/-- A latched flag, once set, stays set through every event but those of R120: a write of EVENT_FLAGS of its port, by
its row or as a register write frame of its address, an ATTACH of its port, which keeps HUB_RESET, a hub reset, which
leaves HUB_RESET set, and a power-on reset. (Of these rows, one that is refused or discarded clears nothing:
CommandFrameDecided to EventFlagsWriteClears, ClaimStepRefuses and AttachStartsSession say so.) -/
def Obligations.LatchedFlagsStay : Prop :=
  ∀ (c : Instr) (s t : State) (q : Port) (f : LatchedFlag), exec c s = .next t → (s.port q).shows f = true →
    (t.port q).shows f = true ∨ (∃ v, c = .eventFlags q v) ∨ (∃ rest, c = .regWrite q (0x82#8 :: 0x18#8 :: rest))
      ∨ (f ≠ .hubReset ∧ ∃ args, c = .attach q args) ∨ (f ≠ .hubReset ∧ ∃ p args, c = .hubReset p args)
      ∨ c = .powerOnReset

/-- Every step keeps the records in range, the reserved and borrowed cells within their limits (R26), and the outstanding
counts within their caps. They hold after power-on reset. -/
def Obligations.StepKeepsLimits : Prop :=
  (∀ s t : State, step s = .next t →
    (ConfigLaw s → ConfigLaw t) ∧ (ConfigLaw s → CreditLaw s → CreditLaw t) ∧ (CapLaw s → CapLaw t))
  ∧ ConfigLaw State.reset ∧ CreditLaw State.reset ∧ CapLaw State.reset

/-- Every step keeps the tokens within the bucket depth and the interval counter within its count (R65, R67), keeps the
claim with an ATTACHED holder and a lease of 1 to 2000 (R151), and keeps a mark's work at the mark: a lease event is due for
a held claim alone, and the lease event and the samplings of a mark are taken before hub time goes on (the model's choice,
log entries 2 and 17), so that each mark lowers a held lease once (R155) and samples each port once (R164). -/
def Obligations.StepKeepsPacingAndClaim : Prop :=
  ∀ s t : State, step s = .next t →
    (PacingLaw s → PacingLaw t) ∧ (ClaimLaw s → ClaimLaw t) ∧ (MarkLaw s → MarkLaw t)

/-- Every step keeps the pool in its canonical form, the inbound queues at 32 entries or fewer with waiters only at 32 (R78,
R81), the notice queues at 16 records or fewer (R110), the latched flags off the places of the state flags (R119), and the
meters at or below their greatest value (R163). -/
def Obligations.StepKeepsBounds : Prop :=
  ∀ s t : State, step s = .next t →
    (PoolLaw s → PoolLaw t) ∧ (QueueLaw s → QueueLaw t) ∧ (NoticeLaw s → NoticeLaw t) ∧ (FlagLaw s → FlagLaw t)
      ∧ (MeterLaw s → MeterLaw t)

/-- Each cell is at every moment on the free list or in the chain of exactly one message, so that the free cells are 512 minus
the chain lengths (R23). It holds after power-on reset, and every step keeps it. -/
def Obligations.StepKeepsCells : Prop :=
  CellLaw State.reset ∧ (∀ s t : State, step s = .next t → CellLaw s → CellLaw t)
  ∧ ∀ s : State, CellLaw s → s.freeList.length = 512 - ((messages s).map fun m => m.chain.length).sum

/-- A message's two charges make up its chain, and each port's charged totals are the sums over the messages it sourced: so
it is after power-on reset, and every step keeps it. So the free list is as long as the unused allotments and the unused shared
capacity together, and a granted charge finds its cells on it (R30). -/
def Obligations.StepKeepsCharges : Prop :=
  MessageLaw State.reset ∧ ChargeLaw State.reset
  ∧ (∀ s t : State, step s = .next t → MessageLaw s → ChargeLaw s → MessageLaw t ∧ ChargeLaw t)
  ∧ ∀ s : State, ConfigLaw s → CreditLaw s → MessageLaw s → ChargeLaw s → CellLaw s →
      FreeCellLaw s ∧ ∀ (p : Port) (l : Lane) (k : Nat) (c : Charge), s.grant p l k = some c →
        c.reserved + c.shared ≤ s.freeList.length

/-- A LIVE message's readers remaining equals the number of inbound entries that name it and is at least 1, and no entry names
a descriptor in any other state (R91); its outcome records, accepted and refusal sets stay as R3 has them. So it is
after power-on reset, and every step keeps it. -/
def Obligations.StepKeepsDeliveries : Prop :=
  EntryLaw State.reset ∧ DeliveryLaw State.reset ∧ SplitLaw State.reset
  ∧ (∀ s t : State, step s = .next t → MessageLaw s → EntryLaw s → DeliveryLaw s → SplitLaw s →
    EntryLaw t ∧ DeliveryLaw t ∧ SplitLaw t)
  ∧ ∀ (s : State) (i : DescIndex) (m : Message) (d : Delivery), DeliveryLaw s → (s.desc i).state = .live m d →
      1 ≤ d.readers
      ∧ d.readers = (Port.all.map fun p =>
          entryCount s p .urgent (s.handleAt i) + entryCount s p .routine (s.handleAt i)).sum

/-- Every step keeps the held-post slots and the HELD messages in step (R70), keeps a detach with the engine that carries it
(R133, R134), and keeps an OFFLINE port without OPEN or HELD messages, entries, notices, waiter places and marker (R140). -/
def Obligations.StepKeepsSlotsAndSessions : Prop :=
  ∀ s t : State, step s = .next t →
    (HeldLaw s → HeldLaw t) ∧ (DetachLaw s → DetachLaw t) ∧ (OfflineLaw s → OfflineLaw t)

/-- In every lawful state every step answers a next state, and that state is lawful: no event of the hub ends in a fault
or a refusal, and no law is ever broken. -/
def Obligations.LawfulStepNeverStops : Prop := ∀ s : State, Lawful s → ∃ t, step s = .next t ∧ Lawful t
end

