-- ==== Sys2Proof/Laws/State.lean ====
section
/-! SUPPORT. The small lemmas of State and of the updates every command shares: one per field per update, so that no later
proof unfolds a record update. -/

namespace Sys2Proof

/-! ## Values per port and per lane -/

variable {α : Type}

@[simp] theorem PerPort.get_set_self (v : PerPort α) (p : Port) (x : α) : (v.set p x).get p = x := by cases p <;> rfl

theorem PerPort.get_set_ne (v : PerPort α) {p q : Port} (x : α) (h : q ≠ p) : (v.set p x).get q = v.get q := by
  cases p <;> cases q <;> first | rfl | exact absurd rfl h

theorem PerPort.get_set (v : PerPort α) (p q : Port) (x : α) : (v.set p x).get q = if q = p then x else v.get q := by
  cases p <;> cases q <;> rfl

@[simp] theorem PerPort.get_map (v : PerPort α) (f : Port → α → α) (p : Port) : (v.map f).get p = f p (v.get p) := by
  cases p <;> rfl

@[simp] theorem PerPort.get_all (x : α) (p : Port) : (PerPort.all x).get p = x := by cases p <;> rfl

@[ext] theorem PerPort.ext_get {v w : PerPort α} (h : ∀ p, v.get p = w.get p) : v = w := by
  obtain ⟨a, b, c, d⟩ := v
  obtain ⟨a', b', c', d'⟩ := w
  have h0 : a = a' := h .p0
  have h1 : b = b' := h .p1
  have h2 : c = c' := h .p2
  have h3 : d = d' := h .p3
  subst h0 h1 h2 h3
  rfl

@[simp] theorem PerLane.get_set_self (v : PerLane α) (l : Lane) (x : α) : (v.set l x).get l = x := by cases l <;> rfl

theorem PerLane.get_set_ne (v : PerLane α) {l k : Lane} (x : α) (h : k ≠ l) : (v.set l x).get k = v.get k := by
  cases l <;> cases k <;> first | rfl | exact absurd rfl h

theorem PerLane.get_set (v : PerLane α) (l k : Lane) (x : α) : (v.set l x).get k = if k = l then x else v.get k := by
  cases l <;> cases k <;> rfl

theorem Port.mem_all (p : Port) : p ∈ Port.all := by cases p <;> decide

theorem Port.nodup_all : Port.all.Nodup := by decide

namespace Machine

/-! ## One port -/

@[simp] theorem State.port_setPort_self (s : State) (p : Port) (x : PortState) : (s.setPort p x).port p = x :=
  PerPort.get_set_self _ _ _

theorem State.port_setPort_ne (s : State) {p q : Port} (x : PortState) (h : q ≠ p) : (s.setPort p x).port q = s.port q :=
  PerPort.get_set_ne _ _ h

theorem State.port_setPort (s : State) (p q : Port) (x : PortState) :
    (s.setPort p x).port q = if q = p then x else s.port q := PerPort.get_set _ _ _ _

@[simp] theorem State.port_modifyPort_self (s : State) (p : Port) (f : PortState → PortState) :
    (s.modifyPort p f).port p = f (s.port p) := State.port_setPort_self _ _ _

theorem State.port_modifyPort_ne (s : State) {p q : Port} (f : PortState → PortState) (h : q ≠ p) :
    (s.modifyPort p f).port q = s.port q := State.port_setPort_ne _ _ h

theorem State.port_modifyPort (s : State) (p q : Port) (f : PortState → PortState) :
    (s.modifyPort p f).port q = if q = p then f (s.port p) else s.port q := State.port_setPort _ _ _ _

@[simp] theorem State.port_mapPorts (s : State) (f : Port → PortState → PortState) (q : Port) :
    (s.mapPorts f).port q = f q (s.port q) := PerPort.get_map _ _ _

@[simp] theorem State.port_raiseWhere (s : State) (on : Port → Bool) (f : LatchedFlag) (q : Port) :
    (s.raiseWhere on f).port q = if on q then (s.port q).raise f else s.port q := State.port_mapPorts _ _ _

@[simp] theorem State.setPort_setPort (s : State) (p : Port) (x y : PortState) :
    (s.setPort p x).setPort p y = s.setPort p y := by cases p <;> rfl

@[simp] theorem State.setPort_port (s : State) (p : Port) : s.setPort p (s.port p) = s := by
  obtain ⟨⟨_, _, _, _⟩⟩ := s
  cases p <;> rfl

theorem State.modifyPort_eq (s : State) (p : Port) (f : PortState → PortState) :
    s.modifyPort p f = s.setPort p (f (s.port p)) := rfl

/-- Two states are equal when their ports and their hub-wide fields are. -/
theorem State.eq_of_ports {s t : State} (h : t = { s with ports := t.ports }) (hp : ∀ q, t.port q = s.port q) : t = s := by
  have : t.ports = s.ports := PerPort.ext_get hp
  rw [h, this]

@[simp] theorem State.port_with_table (s : State) (x : Vector Descriptor 128) (p : Port) : ({ s with table := x } : State).port p = s.port p := rfl

@[simp] theorem State.port_with_pool (s : State) (x : Pool) (p : Port) : ({ s with pool := x } : State).port p = s.port p := rfl

@[simp] theorem State.port_with_freeList (s : State) (x : List CellIndex) (p : Port) : ({ s with freeList := x } : State).port p = s.port p := rfl

@[simp] theorem State.port_with_tick (s : State) (x : BitVec 32) (p : Port) : ({ s with tick := x } : State).port p = s.port p := rfl

@[simp] theorem State.port_with_markDue (s : State) (x : Bool) (p : Port) : ({ s with markDue := x } : State).port p = s.port p := rfl

@[simp] theorem State.port_with_claim (s : State) (x : Option Claim) (p : Port) : ({ s with claim := x } : State).port p = s.port p := rfl

@[simp] theorem State.port_with_leaseDue (s : State) (x : Bool) (p : Port) : ({ s with leaseDue := x } : State).port p = s.port p := rfl

@[simp] theorem State.port_with_refclk (s : State) (x : Bool) (p : Port) : ({ s with refclk := x } : State).port p = s.port p := rfl

@[simp] theorem State.port_with_pending (s : State) (x : List Instr) (p : Port) : ({ s with pending := x } : State).port p = s.port p := rfl

@[simp] theorem State.desc_with_ports (s : State) (x : PerPort PortState) (i : DescIndex) :
    ({ s with ports := x } : State).desc i = s.desc i := rfl

@[simp] theorem State.desc_with_pool (s : State) (x : Pool) (i : DescIndex) : ({ s with pool := x } : State).desc i = s.desc i := rfl

@[simp] theorem State.desc_with_freeList (s : State) (x : List CellIndex) (i : DescIndex) : ({ s with freeList := x } : State).desc i = s.desc i := rfl

@[simp] theorem State.desc_with_tick (s : State) (x : BitVec 32) (i : DescIndex) : ({ s with tick := x } : State).desc i = s.desc i := rfl

@[simp] theorem State.desc_with_markDue (s : State) (x : Bool) (i : DescIndex) : ({ s with markDue := x } : State).desc i = s.desc i := rfl

@[simp] theorem State.desc_with_claim (s : State) (x : Option Claim) (i : DescIndex) : ({ s with claim := x } : State).desc i = s.desc i := rfl

@[simp] theorem State.desc_with_leaseDue (s : State) (x : Bool) (i : DescIndex) : ({ s with leaseDue := x } : State).desc i = s.desc i := rfl

@[simp] theorem State.desc_with_refclk (s : State) (x : Bool) (i : DescIndex) : ({ s with refclk := x } : State).desc i = s.desc i := rfl

@[simp] theorem State.desc_with_pending (s : State) (x : List Instr) (i : DescIndex) : ({ s with pending := x } : State).desc i = s.desc i := rfl

/-! ## The hub-wide fields under an update of ports -/

@[simp] theorem State.setPort_table (s : State) (p : Port) (x : PortState) : (s.setPort p x).table = s.table := rfl
@[simp] theorem State.setPort_pool (s : State) (p : Port) (x : PortState) : (s.setPort p x).pool = s.pool := rfl
@[simp] theorem State.setPort_freeList (s : State) (p : Port) (x : PortState) : (s.setPort p x).freeList = s.freeList := rfl
@[simp] theorem State.setPort_tick (s : State) (p : Port) (x : PortState) : (s.setPort p x).tick = s.tick := rfl
@[simp] theorem State.setPort_markDue (s : State) (p : Port) (x : PortState) : (s.setPort p x).markDue = s.markDue := rfl
@[simp] theorem State.setPort_claim (s : State) (p : Port) (x : PortState) : (s.setPort p x).claim = s.claim := rfl
@[simp] theorem State.setPort_leaseDue (s : State) (p : Port) (x : PortState) : (s.setPort p x).leaseDue = s.leaseDue := rfl
@[simp] theorem State.setPort_refclk (s : State) (p : Port) (x : PortState) : (s.setPort p x).refclk = s.refclk := rfl
@[simp] theorem State.setPort_pending (s : State) (p : Port) (x : PortState) : (s.setPort p x).pending = s.pending := rfl
@[simp] theorem State.setPort_desc (s : State) (p : Port) (x : PortState) (i : DescIndex) : (s.setPort p x).desc i = s.desc i := rfl

@[simp] theorem State.modifyPort_table (s : State) (p : Port) (f : PortState → PortState) : (s.modifyPort p f).table = s.table := rfl
@[simp] theorem State.modifyPort_pool (s : State) (p : Port) (f : PortState → PortState) : (s.modifyPort p f).pool = s.pool := rfl
@[simp] theorem State.modifyPort_freeList (s : State) (p : Port) (f : PortState → PortState) : (s.modifyPort p f).freeList = s.freeList := rfl
@[simp] theorem State.modifyPort_tick (s : State) (p : Port) (f : PortState → PortState) : (s.modifyPort p f).tick = s.tick := rfl
@[simp] theorem State.modifyPort_markDue (s : State) (p : Port) (f : PortState → PortState) : (s.modifyPort p f).markDue = s.markDue := rfl
@[simp] theorem State.modifyPort_claim (s : State) (p : Port) (f : PortState → PortState) : (s.modifyPort p f).claim = s.claim := rfl
@[simp] theorem State.modifyPort_leaseDue (s : State) (p : Port) (f : PortState → PortState) : (s.modifyPort p f).leaseDue = s.leaseDue := rfl
@[simp] theorem State.modifyPort_refclk (s : State) (p : Port) (f : PortState → PortState) : (s.modifyPort p f).refclk = s.refclk := rfl
@[simp] theorem State.modifyPort_pending (s : State) (p : Port) (f : PortState → PortState) : (s.modifyPort p f).pending = s.pending := rfl
@[simp] theorem State.modifyPort_desc (s : State) (p : Port) (f : PortState → PortState) (i : DescIndex) : (s.modifyPort p f).desc i = s.desc i := rfl

@[simp] theorem State.mapPorts_table (s : State) (f : Port → PortState → PortState) : (s.mapPorts f).table = s.table := rfl
@[simp] theorem State.mapPorts_pool (s : State) (f : Port → PortState → PortState) : (s.mapPorts f).pool = s.pool := rfl
@[simp] theorem State.mapPorts_freeList (s : State) (f : Port → PortState → PortState) : (s.mapPorts f).freeList = s.freeList := rfl
@[simp] theorem State.mapPorts_tick (s : State) (f : Port → PortState → PortState) : (s.mapPorts f).tick = s.tick := rfl
@[simp] theorem State.mapPorts_markDue (s : State) (f : Port → PortState → PortState) : (s.mapPorts f).markDue = s.markDue := rfl
@[simp] theorem State.mapPorts_claim (s : State) (f : Port → PortState → PortState) : (s.mapPorts f).claim = s.claim := rfl
@[simp] theorem State.mapPorts_leaseDue (s : State) (f : Port → PortState → PortState) : (s.mapPorts f).leaseDue = s.leaseDue := rfl
@[simp] theorem State.mapPorts_refclk (s : State) (f : Port → PortState → PortState) : (s.mapPorts f).refclk = s.refclk := rfl
@[simp] theorem State.mapPorts_pending (s : State) (f : Port → PortState → PortState) : (s.mapPorts f).pending = s.pending := rfl
@[simp] theorem State.mapPorts_desc (s : State) (f : Port → PortState → PortState) (i : DescIndex) : (s.mapPorts f).desc i = s.desc i := rfl

@[simp] theorem State.raiseWhere_table (s : State) (on : Port → Bool) (f : LatchedFlag) : (s.raiseWhere on f).table = s.table := rfl
@[simp] theorem State.raiseWhere_pool (s : State) (on : Port → Bool) (f : LatchedFlag) : (s.raiseWhere on f).pool = s.pool := rfl
@[simp] theorem State.raiseWhere_freeList (s : State) (on : Port → Bool) (f : LatchedFlag) : (s.raiseWhere on f).freeList = s.freeList := rfl
@[simp] theorem State.raiseWhere_tick (s : State) (on : Port → Bool) (f : LatchedFlag) : (s.raiseWhere on f).tick = s.tick := rfl
@[simp] theorem State.raiseWhere_markDue (s : State) (on : Port → Bool) (f : LatchedFlag) : (s.raiseWhere on f).markDue = s.markDue := rfl
@[simp] theorem State.raiseWhere_claim (s : State) (on : Port → Bool) (f : LatchedFlag) : (s.raiseWhere on f).claim = s.claim := rfl
@[simp] theorem State.raiseWhere_leaseDue (s : State) (on : Port → Bool) (f : LatchedFlag) : (s.raiseWhere on f).leaseDue = s.leaseDue := rfl
@[simp] theorem State.raiseWhere_refclk (s : State) (on : Port → Bool) (f : LatchedFlag) : (s.raiseWhere on f).refclk = s.refclk := rfl
@[simp] theorem State.raiseWhere_pending (s : State) (on : Port → Bool) (f : LatchedFlag) : (s.raiseWhere on f).pending = s.pending := rfl
@[simp] theorem State.raiseWhere_desc (s : State) (on : Port → Bool) (f : LatchedFlag) (i : DescIndex) : (s.raiseWhere on f).desc i = s.desc i := rfl

@[simp] theorem State.raiseOn_table (s : State) (p : Port) (f : LatchedFlag) : (s.raiseOn p f).table = s.table := rfl
@[simp] theorem State.raiseOn_pool (s : State) (p : Port) (f : LatchedFlag) : (s.raiseOn p f).pool = s.pool := rfl
@[simp] theorem State.raiseOn_freeList (s : State) (p : Port) (f : LatchedFlag) : (s.raiseOn p f).freeList = s.freeList := rfl
@[simp] theorem State.raiseOn_tick (s : State) (p : Port) (f : LatchedFlag) : (s.raiseOn p f).tick = s.tick := rfl
@[simp] theorem State.raiseOn_markDue (s : State) (p : Port) (f : LatchedFlag) : (s.raiseOn p f).markDue = s.markDue := rfl
@[simp] theorem State.raiseOn_claim (s : State) (p : Port) (f : LatchedFlag) : (s.raiseOn p f).claim = s.claim := rfl
@[simp] theorem State.raiseOn_leaseDue (s : State) (p : Port) (f : LatchedFlag) : (s.raiseOn p f).leaseDue = s.leaseDue := rfl
@[simp] theorem State.raiseOn_refclk (s : State) (p : Port) (f : LatchedFlag) : (s.raiseOn p f).refclk = s.refclk := rfl
@[simp] theorem State.raiseOn_pending (s : State) (p : Port) (f : LatchedFlag) : (s.raiseOn p f).pending = s.pending := rfl
@[simp] theorem State.raiseOn_desc (s : State) (p : Port) (f : LatchedFlag) (i : DescIndex) : (s.raiseOn p f).desc i = s.desc i := rfl

@[simp] theorem State.announcePeerChange_table (s : State) (p : Port) : (s.announcePeerChange p).table = s.table := rfl
@[simp] theorem State.announcePeerChange_pool (s : State) (p : Port) : (s.announcePeerChange p).pool = s.pool := rfl
@[simp] theorem State.announcePeerChange_freeList (s : State) (p : Port) : (s.announcePeerChange p).freeList = s.freeList := rfl
@[simp] theorem State.announcePeerChange_tick (s : State) (p : Port) : (s.announcePeerChange p).tick = s.tick := rfl
@[simp] theorem State.announcePeerChange_markDue (s : State) (p : Port) : (s.announcePeerChange p).markDue = s.markDue := rfl
@[simp] theorem State.announcePeerChange_claim (s : State) (p : Port) : (s.announcePeerChange p).claim = s.claim := rfl
@[simp] theorem State.announcePeerChange_leaseDue (s : State) (p : Port) : (s.announcePeerChange p).leaseDue = s.leaseDue := rfl
@[simp] theorem State.announcePeerChange_refclk (s : State) (p : Port) : (s.announcePeerChange p).refclk = s.refclk := rfl
@[simp] theorem State.announcePeerChange_pending (s : State) (p : Port) : (s.announcePeerChange p).pending = s.pending := rfl
@[simp] theorem State.announcePeerChange_desc (s : State) (p : Port) (i : DescIndex) : (s.announcePeerChange p).desc i = s.desc i := rfl

@[simp] theorem State.answer_table (s : State) (p : Port) (r : Result) (b : List Byte) : (s.answer p r b).table = s.table := rfl
@[simp] theorem State.answer_pool (s : State) (p : Port) (r : Result) (b : List Byte) : (s.answer p r b).pool = s.pool := rfl
@[simp] theorem State.answer_freeList (s : State) (p : Port) (r : Result) (b : List Byte) : (s.answer p r b).freeList = s.freeList := rfl
@[simp] theorem State.answer_tick (s : State) (p : Port) (r : Result) (b : List Byte) : (s.answer p r b).tick = s.tick := rfl
@[simp] theorem State.answer_markDue (s : State) (p : Port) (r : Result) (b : List Byte) : (s.answer p r b).markDue = s.markDue := rfl
@[simp] theorem State.answer_claim (s : State) (p : Port) (r : Result) (b : List Byte) : (s.answer p r b).claim = s.claim := rfl
@[simp] theorem State.answer_leaseDue (s : State) (p : Port) (r : Result) (b : List Byte) : (s.answer p r b).leaseDue = s.leaseDue := rfl
@[simp] theorem State.answer_refclk (s : State) (p : Port) (r : Result) (b : List Byte) : (s.answer p r b).refclk = s.refclk := rfl
@[simp] theorem State.answer_pending (s : State) (p : Port) (r : Result) (b : List Byte) : (s.answer p r b).pending = s.pending := rfl
@[simp] theorem State.answer_desc (s : State) (p : Port) (r : Result) (b : List Byte) (i : DescIndex) : (s.answer p r b).desc i = s.desc i := rfl

@[simp] theorem State.countMeters_table (s : State) (p : Port) (f : Meters → Meters) : (s.countMeters p f).table = s.table := rfl
@[simp] theorem State.countMeters_pool (s : State) (p : Port) (f : Meters → Meters) : (s.countMeters p f).pool = s.pool := rfl
@[simp] theorem State.countMeters_freeList (s : State) (p : Port) (f : Meters → Meters) : (s.countMeters p f).freeList = s.freeList := rfl
@[simp] theorem State.countMeters_tick (s : State) (p : Port) (f : Meters → Meters) : (s.countMeters p f).tick = s.tick := rfl
@[simp] theorem State.countMeters_markDue (s : State) (p : Port) (f : Meters → Meters) : (s.countMeters p f).markDue = s.markDue := rfl
@[simp] theorem State.countMeters_claim (s : State) (p : Port) (f : Meters → Meters) : (s.countMeters p f).claim = s.claim := rfl
@[simp] theorem State.countMeters_leaseDue (s : State) (p : Port) (f : Meters → Meters) : (s.countMeters p f).leaseDue = s.leaseDue := rfl
@[simp] theorem State.countMeters_refclk (s : State) (p : Port) (f : Meters → Meters) : (s.countMeters p f).refclk = s.refclk := rfl
@[simp] theorem State.countMeters_pending (s : State) (p : Port) (f : Meters → Meters) : (s.countMeters p f).pending = s.pending := rfl
@[simp] theorem State.countMeters_desc (s : State) (p : Port) (f : Meters → Meters) (i : DescIndex) : (s.countMeters p f).desc i = s.desc i := rfl

@[simp] theorem State.setMarker_table (s : State) (p : Port) : (s.setMarker p).table = s.table := rfl
@[simp] theorem State.setMarker_pool (s : State) (p : Port) : (s.setMarker p).pool = s.pool := rfl
@[simp] theorem State.setMarker_freeList (s : State) (p : Port) : (s.setMarker p).freeList = s.freeList := rfl
@[simp] theorem State.setMarker_tick (s : State) (p : Port) : (s.setMarker p).tick = s.tick := rfl
@[simp] theorem State.setMarker_markDue (s : State) (p : Port) : (s.setMarker p).markDue = s.markDue := rfl
@[simp] theorem State.setMarker_claim (s : State) (p : Port) : (s.setMarker p).claim = s.claim := rfl
@[simp] theorem State.setMarker_leaseDue (s : State) (p : Port) : (s.setMarker p).leaseDue = s.leaseDue := rfl
@[simp] theorem State.setMarker_refclk (s : State) (p : Port) : (s.setMarker p).refclk = s.refclk := rfl
@[simp] theorem State.setMarker_pending (s : State) (p : Port) : (s.setMarker p).pending = s.pending := rfl
@[simp] theorem State.setMarker_desc (s : State) (p : Port) (i : DescIndex) : (s.setMarker p).desc i = s.desc i := rfl

@[simp] theorem State.resolveMarkers_table (s : State) (g : Port → Bool) : (s.resolveMarkers g).table = s.table := rfl
@[simp] theorem State.resolveMarkers_pool (s : State) (g : Port → Bool) : (s.resolveMarkers g).pool = s.pool := rfl
@[simp] theorem State.resolveMarkers_freeList (s : State) (g : Port → Bool) : (s.resolveMarkers g).freeList = s.freeList := rfl
@[simp] theorem State.resolveMarkers_tick (s : State) (g : Port → Bool) : (s.resolveMarkers g).tick = s.tick := rfl
@[simp] theorem State.resolveMarkers_markDue (s : State) (g : Port → Bool) : (s.resolveMarkers g).markDue = s.markDue := rfl
@[simp] theorem State.resolveMarkers_claim (s : State) (g : Port → Bool) : (s.resolveMarkers g).claim = s.claim := rfl
@[simp] theorem State.resolveMarkers_leaseDue (s : State) (g : Port → Bool) : (s.resolveMarkers g).leaseDue = s.leaseDue := rfl
@[simp] theorem State.resolveMarkers_refclk (s : State) (g : Port → Bool) : (s.resolveMarkers g).refclk = s.refclk := rfl
@[simp] theorem State.resolveMarkers_pending (s : State) (g : Port → Bool) : (s.resolveMarkers g).pending = s.pending := rfl
@[simp] theorem State.resolveMarkers_desc (s : State) (g : Port → Bool) (i : DescIndex) : (s.resolveMarkers g).desc i = s.desc i := rfl

@[simp] theorem State.modifyQueue_table (s : State) (p : Port) (l : Lane) (f : InboundQueue → InboundQueue) : (s.modifyQueue p l f).table = s.table := rfl
@[simp] theorem State.modifyQueue_pool (s : State) (p : Port) (l : Lane) (f : InboundQueue → InboundQueue) : (s.modifyQueue p l f).pool = s.pool := rfl
@[simp] theorem State.modifyQueue_freeList (s : State) (p : Port) (l : Lane) (f : InboundQueue → InboundQueue) : (s.modifyQueue p l f).freeList = s.freeList := rfl
@[simp] theorem State.modifyQueue_tick (s : State) (p : Port) (l : Lane) (f : InboundQueue → InboundQueue) : (s.modifyQueue p l f).tick = s.tick := rfl
@[simp] theorem State.modifyQueue_markDue (s : State) (p : Port) (l : Lane) (f : InboundQueue → InboundQueue) : (s.modifyQueue p l f).markDue = s.markDue := rfl
@[simp] theorem State.modifyQueue_claim (s : State) (p : Port) (l : Lane) (f : InboundQueue → InboundQueue) : (s.modifyQueue p l f).claim = s.claim := rfl
@[simp] theorem State.modifyQueue_leaseDue (s : State) (p : Port) (l : Lane) (f : InboundQueue → InboundQueue) : (s.modifyQueue p l f).leaseDue = s.leaseDue := rfl
@[simp] theorem State.modifyQueue_refclk (s : State) (p : Port) (l : Lane) (f : InboundQueue → InboundQueue) : (s.modifyQueue p l f).refclk = s.refclk := rfl
@[simp] theorem State.modifyQueue_pending (s : State) (p : Port) (l : Lane) (f : InboundQueue → InboundQueue) : (s.modifyQueue p l f).pending = s.pending := rfl
@[simp] theorem State.modifyQueue_desc (s : State) (p : Port) (l : Lane) (f : InboundQueue → InboundQueue) (i : DescIndex) : (s.modifyQueue p l f).desc i = s.desc i := rfl

@[simp] theorem State.addWaiters_table (s : State) (q : Port) (l : Lane) (ps : List Port) : (s.addWaiters q l ps).table = s.table := rfl
@[simp] theorem State.addWaiters_pool (s : State) (q : Port) (l : Lane) (ps : List Port) : (s.addWaiters q l ps).pool = s.pool := rfl
@[simp] theorem State.addWaiters_freeList (s : State) (q : Port) (l : Lane) (ps : List Port) : (s.addWaiters q l ps).freeList = s.freeList := rfl
@[simp] theorem State.addWaiters_tick (s : State) (q : Port) (l : Lane) (ps : List Port) : (s.addWaiters q l ps).tick = s.tick := rfl
@[simp] theorem State.addWaiters_markDue (s : State) (q : Port) (l : Lane) (ps : List Port) : (s.addWaiters q l ps).markDue = s.markDue := rfl
@[simp] theorem State.addWaiters_claim (s : State) (q : Port) (l : Lane) (ps : List Port) : (s.addWaiters q l ps).claim = s.claim := rfl
@[simp] theorem State.addWaiters_leaseDue (s : State) (q : Port) (l : Lane) (ps : List Port) : (s.addWaiters q l ps).leaseDue = s.leaseDue := rfl
@[simp] theorem State.addWaiters_refclk (s : State) (q : Port) (l : Lane) (ps : List Port) : (s.addWaiters q l ps).refclk = s.refclk := rfl
@[simp] theorem State.addWaiters_pending (s : State) (q : Port) (l : Lane) (ps : List Port) : (s.addWaiters q l ps).pending = s.pending := rfl
@[simp] theorem State.addWaiters_desc (s : State) (q : Port) (l : Lane) (ps : List Port) (i : DescIndex) : (s.addWaiters q l ps).desc i = s.desc i := rfl

@[simp] theorem State.appendEntries_table (s : State) (e : Entry) (l : Lane) (ps : List Port) : (s.appendEntries e l ps).table = s.table := rfl
@[simp] theorem State.appendEntries_pool (s : State) (e : Entry) (l : Lane) (ps : List Port) : (s.appendEntries e l ps).pool = s.pool := rfl
@[simp] theorem State.appendEntries_freeList (s : State) (e : Entry) (l : Lane) (ps : List Port) : (s.appendEntries e l ps).freeList = s.freeList := rfl
@[simp] theorem State.appendEntries_tick (s : State) (e : Entry) (l : Lane) (ps : List Port) : (s.appendEntries e l ps).tick = s.tick := rfl
@[simp] theorem State.appendEntries_markDue (s : State) (e : Entry) (l : Lane) (ps : List Port) : (s.appendEntries e l ps).markDue = s.markDue := rfl
@[simp] theorem State.appendEntries_claim (s : State) (e : Entry) (l : Lane) (ps : List Port) : (s.appendEntries e l ps).claim = s.claim := rfl
@[simp] theorem State.appendEntries_leaseDue (s : State) (e : Entry) (l : Lane) (ps : List Port) : (s.appendEntries e l ps).leaseDue = s.leaseDue := rfl
@[simp] theorem State.appendEntries_refclk (s : State) (e : Entry) (l : Lane) (ps : List Port) : (s.appendEntries e l ps).refclk = s.refclk := rfl
@[simp] theorem State.appendEntries_pending (s : State) (e : Entry) (l : Lane) (ps : List Port) : (s.appendEntries e l ps).pending = s.pending := rfl
@[simp] theorem State.appendEntries_desc (s : State) (e : Entry) (l : Lane) (ps : List Port) (i : DescIndex) : (s.appendEntries e l ps).desc i = s.desc i := rfl

@[simp] theorem State.spendTokens_table (s : State) (p : Port) (k : Nat) : (s.spendTokens p k).table = s.table := rfl
@[simp] theorem State.spendTokens_pool (s : State) (p : Port) (k : Nat) : (s.spendTokens p k).pool = s.pool := rfl
@[simp] theorem State.spendTokens_freeList (s : State) (p : Port) (k : Nat) : (s.spendTokens p k).freeList = s.freeList := rfl
@[simp] theorem State.spendTokens_tick (s : State) (p : Port) (k : Nat) : (s.spendTokens p k).tick = s.tick := rfl
@[simp] theorem State.spendTokens_markDue (s : State) (p : Port) (k : Nat) : (s.spendTokens p k).markDue = s.markDue := rfl
@[simp] theorem State.spendTokens_claim (s : State) (p : Port) (k : Nat) : (s.spendTokens p k).claim = s.claim := rfl
@[simp] theorem State.spendTokens_leaseDue (s : State) (p : Port) (k : Nat) : (s.spendTokens p k).leaseDue = s.leaseDue := rfl
@[simp] theorem State.spendTokens_refclk (s : State) (p : Port) (k : Nat) : (s.spendTokens p k).refclk = s.refclk := rfl
@[simp] theorem State.spendTokens_pending (s : State) (p : Port) (k : Nat) : (s.spendTokens p k).pending = s.pending := rfl
@[simp] theorem State.spendTokens_desc (s : State) (p : Port) (k : Nat) (i : DescIndex) : (s.spendTokens p k).desc i = s.desc i := rfl

@[simp] theorem State.emptySlot_table (s : State) (p : Port) : (s.emptySlot p).table = s.table := rfl
@[simp] theorem State.emptySlot_pool (s : State) (p : Port) : (s.emptySlot p).pool = s.pool := rfl
@[simp] theorem State.emptySlot_freeList (s : State) (p : Port) : (s.emptySlot p).freeList = s.freeList := rfl
@[simp] theorem State.emptySlot_tick (s : State) (p : Port) : (s.emptySlot p).tick = s.tick := rfl
@[simp] theorem State.emptySlot_markDue (s : State) (p : Port) : (s.emptySlot p).markDue = s.markDue := rfl
@[simp] theorem State.emptySlot_claim (s : State) (p : Port) : (s.emptySlot p).claim = s.claim := rfl
@[simp] theorem State.emptySlot_leaseDue (s : State) (p : Port) : (s.emptySlot p).leaseDue = s.leaseDue := rfl
@[simp] theorem State.emptySlot_refclk (s : State) (p : Port) : (s.emptySlot p).refclk = s.refclk := rfl
@[simp] theorem State.emptySlot_pending (s : State) (p : Port) : (s.emptySlot p).pending = s.pending := rfl
@[simp] theorem State.emptySlot_desc (s : State) (p : Port) (i : DescIndex) : (s.emptySlot p).desc i = s.desc i := rfl

@[simp] theorem State.leaveWaiterSets_table (s : State) (p : Port) : (s.leaveWaiterSets p).table = s.table := rfl
@[simp] theorem State.leaveWaiterSets_pool (s : State) (p : Port) : (s.leaveWaiterSets p).pool = s.pool := rfl
@[simp] theorem State.leaveWaiterSets_freeList (s : State) (p : Port) : (s.leaveWaiterSets p).freeList = s.freeList := rfl
@[simp] theorem State.leaveWaiterSets_tick (s : State) (p : Port) : (s.leaveWaiterSets p).tick = s.tick := rfl
@[simp] theorem State.leaveWaiterSets_markDue (s : State) (p : Port) : (s.leaveWaiterSets p).markDue = s.markDue := rfl
@[simp] theorem State.leaveWaiterSets_claim (s : State) (p : Port) : (s.leaveWaiterSets p).claim = s.claim := rfl
@[simp] theorem State.leaveWaiterSets_leaseDue (s : State) (p : Port) : (s.leaveWaiterSets p).leaseDue = s.leaseDue := rfl
@[simp] theorem State.leaveWaiterSets_refclk (s : State) (p : Port) : (s.leaveWaiterSets p).refclk = s.refclk := rfl
@[simp] theorem State.leaveWaiterSets_pending (s : State) (p : Port) : (s.leaveWaiterSets p).pending = s.pending := rfl
@[simp] theorem State.leaveWaiterSets_desc (s : State) (p : Port) (i : DescIndex) : (s.leaveWaiterSets p).desc i = s.desc i := rfl

@[simp] theorem State.endSeries_table (s : State) (p : Port) (l : Lane) : (s.endSeries p l).table = s.table := rfl
@[simp] theorem State.endSeries_pool (s : State) (p : Port) (l : Lane) : (s.endSeries p l).pool = s.pool := rfl
@[simp] theorem State.endSeries_freeList (s : State) (p : Port) (l : Lane) : (s.endSeries p l).freeList = s.freeList := rfl
@[simp] theorem State.endSeries_tick (s : State) (p : Port) (l : Lane) : (s.endSeries p l).tick = s.tick := rfl
@[simp] theorem State.endSeries_markDue (s : State) (p : Port) (l : Lane) : (s.endSeries p l).markDue = s.markDue := rfl
@[simp] theorem State.endSeries_claim (s : State) (p : Port) (l : Lane) : (s.endSeries p l).claim = s.claim := rfl
@[simp] theorem State.endSeries_leaseDue (s : State) (p : Port) (l : Lane) : (s.endSeries p l).leaseDue = s.leaseDue := rfl
@[simp] theorem State.endSeries_refclk (s : State) (p : Port) (l : Lane) : (s.endSeries p l).refclk = s.refclk := rfl
@[simp] theorem State.endSeries_pending (s : State) (p : Port) (l : Lane) : (s.endSeries p l).pending = s.pending := rfl
@[simp] theorem State.endSeries_desc (s : State) (p : Port) (l : Lane) (i : DescIndex) : (s.endSeries p l).desc i = s.desc i := rfl

@[simp] theorem State.endRelease_table (s : State) (p : Port) (h : HeldPost) : (s.endRelease p h).table = s.table := rfl
@[simp] theorem State.endRelease_pool (s : State) (p : Port) (h : HeldPost) : (s.endRelease p h).pool = s.pool := rfl
@[simp] theorem State.endRelease_freeList (s : State) (p : Port) (h : HeldPost) : (s.endRelease p h).freeList = s.freeList := rfl
@[simp] theorem State.endRelease_tick (s : State) (p : Port) (h : HeldPost) : (s.endRelease p h).tick = s.tick := rfl
@[simp] theorem State.endRelease_markDue (s : State) (p : Port) (h : HeldPost) : (s.endRelease p h).markDue = s.markDue := rfl
@[simp] theorem State.endRelease_claim (s : State) (p : Port) (h : HeldPost) : (s.endRelease p h).claim = s.claim := rfl
@[simp] theorem State.endRelease_leaseDue (s : State) (p : Port) (h : HeldPost) : (s.endRelease p h).leaseDue = s.leaseDue := rfl
@[simp] theorem State.endRelease_refclk (s : State) (p : Port) (h : HeldPost) : (s.endRelease p h).refclk = s.refclk := rfl
@[simp] theorem State.endRelease_pending (s : State) (p : Port) (h : HeldPost) : (s.endRelease p h).pending = s.pending := rfl
@[simp] theorem State.endRelease_desc (s : State) (p : Port) (h : HeldPost) (i : DescIndex) : (s.endRelease p h).desc i = s.desc i := rfl

/-! ## Descriptors -/

@[simp] theorem State.desc_setDesc_self (s : State) (i : DescIndex) (d : Descriptor) : (s.setDesc i d).desc i = d := by
  simp [State.desc, State.setDesc]

theorem State.desc_setDesc_ne (s : State) {i j : DescIndex} (d : Descriptor) (h : j ≠ i) :
    (s.setDesc i d).desc j = s.desc j := by
  have : i.val ≠ j.val := fun e => h (Fin.ext e.symm)
  simp [State.desc, State.setDesc, this]

theorem State.desc_setDesc (s : State) (i j : DescIndex) (d : Descriptor) :
    (s.setDesc i d).desc j = if j = i then d else s.desc j := by
  by_cases h : j = i
  · subst h
    simp
  · simp [State.desc_setDesc_ne s d h, h]

@[simp] theorem State.port_setDesc (s : State) (i : DescIndex) (d : Descriptor) (p : Port) :
    (s.setDesc i d).port p = s.port p := rfl

@[simp] theorem State.port_freeDesc (s : State) (i : DescIndex) (p : Port) : (s.freeDesc i).port p = s.port p := rfl

theorem State.desc_freeDesc (s : State) (i j : DescIndex) :
    (s.freeDesc i).desc j = if j = i then { generation := (s.desc i).generation + 1, state := .free } else s.desc j :=
  State.desc_setDesc _ _ _ _

@[simp] theorem State.setDesc_pool (s : State) (i : DescIndex) (d : Descriptor) : (s.setDesc i d).pool = s.pool := rfl
@[simp] theorem State.setDesc_freeList (s : State) (i : DescIndex) (d : Descriptor) : (s.setDesc i d).freeList = s.freeList := rfl
@[simp] theorem State.setDesc_tick (s : State) (i : DescIndex) (d : Descriptor) : (s.setDesc i d).tick = s.tick := rfl
@[simp] theorem State.setDesc_markDue (s : State) (i : DescIndex) (d : Descriptor) : (s.setDesc i d).markDue = s.markDue := rfl
@[simp] theorem State.setDesc_claim (s : State) (i : DescIndex) (d : Descriptor) : (s.setDesc i d).claim = s.claim := rfl
@[simp] theorem State.setDesc_leaseDue (s : State) (i : DescIndex) (d : Descriptor) : (s.setDesc i d).leaseDue = s.leaseDue := rfl
@[simp] theorem State.setDesc_refclk (s : State) (i : DescIndex) (d : Descriptor) : (s.setDesc i d).refclk = s.refclk := rfl
@[simp] theorem State.setDesc_pending (s : State) (i : DescIndex) (d : Descriptor) : (s.setDesc i d).pending = s.pending := rfl
@[simp] theorem State.setDesc_ports (s : State) (i : DescIndex) (d : Descriptor) : (s.setDesc i d).ports = s.ports := rfl

@[simp] theorem State.freeDesc_pool (s : State) (i : DescIndex) : (s.freeDesc i).pool = s.pool := rfl
@[simp] theorem State.freeDesc_freeList (s : State) (i : DescIndex) : (s.freeDesc i).freeList = s.freeList := rfl
@[simp] theorem State.freeDesc_tick (s : State) (i : DescIndex) : (s.freeDesc i).tick = s.tick := rfl
@[simp] theorem State.freeDesc_markDue (s : State) (i : DescIndex) : (s.freeDesc i).markDue = s.markDue := rfl
@[simp] theorem State.freeDesc_claim (s : State) (i : DescIndex) : (s.freeDesc i).claim = s.claim := rfl
@[simp] theorem State.freeDesc_leaseDue (s : State) (i : DescIndex) : (s.freeDesc i).leaseDue = s.leaseDue := rfl
@[simp] theorem State.freeDesc_refclk (s : State) (i : DescIndex) : (s.freeDesc i).refclk = s.refclk := rfl
@[simp] theorem State.freeDesc_pending (s : State) (i : DescIndex) : (s.freeDesc i).pending = s.pending := rfl
@[simp] theorem State.freeDesc_ports (s : State) (i : DescIndex) : (s.freeDesc i).ports = s.ports := rfl

/-! ## Fields of one port -/

@[simp] theorem PortState.raise_session (x : PortState) (f : LatchedFlag) : (x.raise f).session = x.session := rfl
@[simp] theorem PortState.raise_epoch (x : PortState) (f : LatchedFlag) : (x.raise f).epoch = x.epoch := rfl
@[simp] theorem PortState.raise_engine (x : PortState) (f : LatchedFlag) : (x.raise f).engine = x.engine := rfl
@[simp] theorem PortState.raise_chipSelect (x : PortState) (f : LatchedFlag) : (x.raise f).chipSelect = x.chipSelect := rfl
@[simp] theorem PortState.raise_miso (x : PortState) (f : LatchedFlag) : (x.raise f).miso = x.miso := rfl
@[simp] theorem PortState.raise_config (x : PortState) (f : LatchedFlag) : (x.raise f).config = x.config := rfl
@[simp] theorem PortState.raise_reservedUse (x : PortState) (f : LatchedFlag) : (x.raise f).reservedUse = x.reservedUse := rfl
@[simp] theorem PortState.raise_borrowed (x : PortState) (f : LatchedFlag) : (x.raise f).borrowed = x.borrowed := rfl
@[simp] theorem PortState.raise_creditWait (x : PortState) (f : LatchedFlag) : (x.raise f).creditWait = x.creditWait := rfl
@[simp] theorem PortState.raise_tokens (x : PortState) (f : LatchedFlag) : (x.raise f).tokens = x.tokens := rfl
@[simp] theorem PortState.raise_interval (x : PortState) (f : LatchedFlag) : (x.raise f).interval = x.interval := rfl
@[simp] theorem PortState.raise_refillDue (x : PortState) (f : LatchedFlag) : (x.raise f).refillDue = x.refillDue := rfl
@[simp] theorem PortState.raise_sequence (x : PortState) (f : LatchedFlag) : (x.raise f).sequence = x.sequence := rfl
@[simp] theorem PortState.raise_heldPost (x : PortState) (f : LatchedFlag) : (x.raise f).heldPost = x.heldPost := rfl
@[simp] theorem PortState.raise_inbound (x : PortState) (f : LatchedFlag) : (x.raise f).inbound = x.inbound := rfl
@[simp] theorem PortState.raise_deadline (x : PortState) (f : LatchedFlag) : (x.raise f).deadline = x.deadline := rfl
@[simp] theorem PortState.raise_notices (x : PortState) (f : LatchedFlag) : (x.raise f).notices = x.notices := rfl
@[simp] theorem PortState.raise_enables (x : PortState) (f : LatchedFlag) : (x.raise f).enables = x.enables := rfl
@[simp] theorem PortState.raise_meters (x : PortState) (f : LatchedFlag) : (x.raise f).meters = x.meters := rfl
@[simp] theorem PortState.raise_threshold (x : PortState) (f : LatchedFlag) : (x.raise f).threshold = x.threshold := rfl
@[simp] theorem PortState.raise_samplesDue (x : PortState) (f : LatchedFlag) : (x.raise f).samplesDue = x.samplesDue := rfl

@[simp] theorem PortState.clearFlags_session (x : PortState) (v : Word) : (x.clearFlags v).session = x.session := rfl
@[simp] theorem PortState.clearFlags_epoch (x : PortState) (v : Word) : (x.clearFlags v).epoch = x.epoch := rfl
@[simp] theorem PortState.clearFlags_engine (x : PortState) (v : Word) : (x.clearFlags v).engine = x.engine := rfl
@[simp] theorem PortState.clearFlags_chipSelect (x : PortState) (v : Word) : (x.clearFlags v).chipSelect = x.chipSelect := rfl
@[simp] theorem PortState.clearFlags_miso (x : PortState) (v : Word) : (x.clearFlags v).miso = x.miso := rfl
@[simp] theorem PortState.clearFlags_config (x : PortState) (v : Word) : (x.clearFlags v).config = x.config := rfl
@[simp] theorem PortState.clearFlags_reservedUse (x : PortState) (v : Word) : (x.clearFlags v).reservedUse = x.reservedUse := rfl
@[simp] theorem PortState.clearFlags_borrowed (x : PortState) (v : Word) : (x.clearFlags v).borrowed = x.borrowed := rfl
@[simp] theorem PortState.clearFlags_creditWait (x : PortState) (v : Word) : (x.clearFlags v).creditWait = x.creditWait := rfl
@[simp] theorem PortState.clearFlags_tokens (x : PortState) (v : Word) : (x.clearFlags v).tokens = x.tokens := rfl
@[simp] theorem PortState.clearFlags_interval (x : PortState) (v : Word) : (x.clearFlags v).interval = x.interval := rfl
@[simp] theorem PortState.clearFlags_refillDue (x : PortState) (v : Word) : (x.clearFlags v).refillDue = x.refillDue := rfl
@[simp] theorem PortState.clearFlags_sequence (x : PortState) (v : Word) : (x.clearFlags v).sequence = x.sequence := rfl
@[simp] theorem PortState.clearFlags_heldPost (x : PortState) (v : Word) : (x.clearFlags v).heldPost = x.heldPost := rfl
@[simp] theorem PortState.clearFlags_inbound (x : PortState) (v : Word) : (x.clearFlags v).inbound = x.inbound := rfl
@[simp] theorem PortState.clearFlags_deadline (x : PortState) (v : Word) : (x.clearFlags v).deadline = x.deadline := rfl
@[simp] theorem PortState.clearFlags_notices (x : PortState) (v : Word) : (x.clearFlags v).notices = x.notices := rfl
@[simp] theorem PortState.clearFlags_enables (x : PortState) (v : Word) : (x.clearFlags v).enables = x.enables := rfl
@[simp] theorem PortState.clearFlags_meters (x : PortState) (v : Word) : (x.clearFlags v).meters = x.meters := rfl
@[simp] theorem PortState.clearFlags_threshold (x : PortState) (v : Word) : (x.clearFlags v).threshold = x.threshold := rfl
@[simp] theorem PortState.clearFlags_samplesDue (x : PortState) (v : Word) : (x.clearFlags v).samplesDue = x.samplesDue := rfl

@[simp] theorem PortState.setEnables_session (x : PortState) (v : Word) : (x.setEnables v).session = x.session := rfl
@[simp] theorem PortState.setEnables_epoch (x : PortState) (v : Word) : (x.setEnables v).epoch = x.epoch := rfl
@[simp] theorem PortState.setEnables_engine (x : PortState) (v : Word) : (x.setEnables v).engine = x.engine := rfl
@[simp] theorem PortState.setEnables_chipSelect (x : PortState) (v : Word) : (x.setEnables v).chipSelect = x.chipSelect := rfl
@[simp] theorem PortState.setEnables_miso (x : PortState) (v : Word) : (x.setEnables v).miso = x.miso := rfl
@[simp] theorem PortState.setEnables_config (x : PortState) (v : Word) : (x.setEnables v).config = x.config := rfl
@[simp] theorem PortState.setEnables_reservedUse (x : PortState) (v : Word) : (x.setEnables v).reservedUse = x.reservedUse := rfl
@[simp] theorem PortState.setEnables_borrowed (x : PortState) (v : Word) : (x.setEnables v).borrowed = x.borrowed := rfl
@[simp] theorem PortState.setEnables_creditWait (x : PortState) (v : Word) : (x.setEnables v).creditWait = x.creditWait := rfl
@[simp] theorem PortState.setEnables_tokens (x : PortState) (v : Word) : (x.setEnables v).tokens = x.tokens := rfl
@[simp] theorem PortState.setEnables_interval (x : PortState) (v : Word) : (x.setEnables v).interval = x.interval := rfl
@[simp] theorem PortState.setEnables_refillDue (x : PortState) (v : Word) : (x.setEnables v).refillDue = x.refillDue := rfl
@[simp] theorem PortState.setEnables_sequence (x : PortState) (v : Word) : (x.setEnables v).sequence = x.sequence := rfl
@[simp] theorem PortState.setEnables_heldPost (x : PortState) (v : Word) : (x.setEnables v).heldPost = x.heldPost := rfl
@[simp] theorem PortState.setEnables_inbound (x : PortState) (v : Word) : (x.setEnables v).inbound = x.inbound := rfl
@[simp] theorem PortState.setEnables_deadline (x : PortState) (v : Word) : (x.setEnables v).deadline = x.deadline := rfl
@[simp] theorem PortState.setEnables_notices (x : PortState) (v : Word) : (x.setEnables v).notices = x.notices := rfl
@[simp] theorem PortState.setEnables_latched (x : PortState) (v : Word) : (x.setEnables v).latched = x.latched := rfl
@[simp] theorem PortState.setEnables_meters (x : PortState) (v : Word) : (x.setEnables v).meters = x.meters := rfl
@[simp] theorem PortState.setEnables_threshold (x : PortState) (v : Word) : (x.setEnables v).threshold = x.threshold := rfl
@[simp] theorem PortState.setEnables_samplesDue (x : PortState) (v : Word) : (x.setEnables v).samplesDue = x.samplesDue := rfl

@[simp] theorem PortState.charge_session (x : PortState) (l : Lane) (c : Charge) : (x.charge l c).session = x.session := rfl
@[simp] theorem PortState.charge_epoch (x : PortState) (l : Lane) (c : Charge) : (x.charge l c).epoch = x.epoch := rfl
@[simp] theorem PortState.charge_engine (x : PortState) (l : Lane) (c : Charge) : (x.charge l c).engine = x.engine := rfl
@[simp] theorem PortState.charge_chipSelect (x : PortState) (l : Lane) (c : Charge) : (x.charge l c).chipSelect = x.chipSelect := rfl
@[simp] theorem PortState.charge_miso (x : PortState) (l : Lane) (c : Charge) : (x.charge l c).miso = x.miso := rfl
@[simp] theorem PortState.charge_config (x : PortState) (l : Lane) (c : Charge) : (x.charge l c).config = x.config := rfl
@[simp] theorem PortState.charge_creditWait (x : PortState) (l : Lane) (c : Charge) : (x.charge l c).creditWait = x.creditWait := rfl
@[simp] theorem PortState.charge_tokens (x : PortState) (l : Lane) (c : Charge) : (x.charge l c).tokens = x.tokens := rfl
@[simp] theorem PortState.charge_interval (x : PortState) (l : Lane) (c : Charge) : (x.charge l c).interval = x.interval := rfl
@[simp] theorem PortState.charge_refillDue (x : PortState) (l : Lane) (c : Charge) : (x.charge l c).refillDue = x.refillDue := rfl
@[simp] theorem PortState.charge_sequence (x : PortState) (l : Lane) (c : Charge) : (x.charge l c).sequence = x.sequence := rfl
@[simp] theorem PortState.charge_heldPost (x : PortState) (l : Lane) (c : Charge) : (x.charge l c).heldPost = x.heldPost := rfl
@[simp] theorem PortState.charge_inbound (x : PortState) (l : Lane) (c : Charge) : (x.charge l c).inbound = x.inbound := rfl
@[simp] theorem PortState.charge_deadline (x : PortState) (l : Lane) (c : Charge) : (x.charge l c).deadline = x.deadline := rfl
@[simp] theorem PortState.charge_notices (x : PortState) (l : Lane) (c : Charge) : (x.charge l c).notices = x.notices := rfl
@[simp] theorem PortState.charge_latched (x : PortState) (l : Lane) (c : Charge) : (x.charge l c).latched = x.latched := rfl
@[simp] theorem PortState.charge_enables (x : PortState) (l : Lane) (c : Charge) : (x.charge l c).enables = x.enables := rfl
@[simp] theorem PortState.charge_meters (x : PortState) (l : Lane) (c : Charge) : (x.charge l c).meters = x.meters := rfl
@[simp] theorem PortState.charge_threshold (x : PortState) (l : Lane) (c : Charge) : (x.charge l c).threshold = x.threshold := rfl
@[simp] theorem PortState.charge_samplesDue (x : PortState) (l : Lane) (c : Charge) : (x.charge l c).samplesDue = x.samplesDue := rfl

@[simp] theorem PortState.uncharge_session (x : PortState) (l : Lane) (c : Charge) : (x.uncharge l c).session = x.session := rfl
@[simp] theorem PortState.uncharge_epoch (x : PortState) (l : Lane) (c : Charge) : (x.uncharge l c).epoch = x.epoch := rfl
@[simp] theorem PortState.uncharge_engine (x : PortState) (l : Lane) (c : Charge) : (x.uncharge l c).engine = x.engine := rfl
@[simp] theorem PortState.uncharge_chipSelect (x : PortState) (l : Lane) (c : Charge) : (x.uncharge l c).chipSelect = x.chipSelect := rfl
@[simp] theorem PortState.uncharge_miso (x : PortState) (l : Lane) (c : Charge) : (x.uncharge l c).miso = x.miso := rfl
@[simp] theorem PortState.uncharge_config (x : PortState) (l : Lane) (c : Charge) : (x.uncharge l c).config = x.config := rfl
@[simp] theorem PortState.uncharge_creditWait (x : PortState) (l : Lane) (c : Charge) : (x.uncharge l c).creditWait = x.creditWait := rfl
@[simp] theorem PortState.uncharge_tokens (x : PortState) (l : Lane) (c : Charge) : (x.uncharge l c).tokens = x.tokens := rfl
@[simp] theorem PortState.uncharge_interval (x : PortState) (l : Lane) (c : Charge) : (x.uncharge l c).interval = x.interval := rfl
@[simp] theorem PortState.uncharge_refillDue (x : PortState) (l : Lane) (c : Charge) : (x.uncharge l c).refillDue = x.refillDue := rfl
@[simp] theorem PortState.uncharge_sequence (x : PortState) (l : Lane) (c : Charge) : (x.uncharge l c).sequence = x.sequence := rfl
@[simp] theorem PortState.uncharge_heldPost (x : PortState) (l : Lane) (c : Charge) : (x.uncharge l c).heldPost = x.heldPost := rfl
@[simp] theorem PortState.uncharge_inbound (x : PortState) (l : Lane) (c : Charge) : (x.uncharge l c).inbound = x.inbound := rfl
@[simp] theorem PortState.uncharge_deadline (x : PortState) (l : Lane) (c : Charge) : (x.uncharge l c).deadline = x.deadline := rfl
@[simp] theorem PortState.uncharge_notices (x : PortState) (l : Lane) (c : Charge) : (x.uncharge l c).notices = x.notices := rfl
@[simp] theorem PortState.uncharge_latched (x : PortState) (l : Lane) (c : Charge) : (x.uncharge l c).latched = x.latched := rfl
@[simp] theorem PortState.uncharge_enables (x : PortState) (l : Lane) (c : Charge) : (x.uncharge l c).enables = x.enables := rfl
@[simp] theorem PortState.uncharge_meters (x : PortState) (l : Lane) (c : Charge) : (x.uncharge l c).meters = x.meters := rfl
@[simp] theorem PortState.uncharge_threshold (x : PortState) (l : Lane) (c : Charge) : (x.uncharge l c).threshold = x.threshold := rfl
@[simp] theorem PortState.uncharge_samplesDue (x : PortState) (l : Lane) (c : Charge) : (x.uncharge l c).samplesDue = x.samplesDue := rfl

@[simp] theorem PortState.modifyQueue_session (x : PortState) (l : Lane) (f : InboundQueue → InboundQueue) : (x.modifyQueue l f).session = x.session := rfl
@[simp] theorem PortState.modifyQueue_epoch (x : PortState) (l : Lane) (f : InboundQueue → InboundQueue) : (x.modifyQueue l f).epoch = x.epoch := rfl
@[simp] theorem PortState.modifyQueue_engine (x : PortState) (l : Lane) (f : InboundQueue → InboundQueue) : (x.modifyQueue l f).engine = x.engine := rfl
@[simp] theorem PortState.modifyQueue_chipSelect (x : PortState) (l : Lane) (f : InboundQueue → InboundQueue) : (x.modifyQueue l f).chipSelect = x.chipSelect := rfl
@[simp] theorem PortState.modifyQueue_miso (x : PortState) (l : Lane) (f : InboundQueue → InboundQueue) : (x.modifyQueue l f).miso = x.miso := rfl
@[simp] theorem PortState.modifyQueue_config (x : PortState) (l : Lane) (f : InboundQueue → InboundQueue) : (x.modifyQueue l f).config = x.config := rfl
@[simp] theorem PortState.modifyQueue_reservedUse (x : PortState) (l : Lane) (f : InboundQueue → InboundQueue) : (x.modifyQueue l f).reservedUse = x.reservedUse := rfl
@[simp] theorem PortState.modifyQueue_borrowed (x : PortState) (l : Lane) (f : InboundQueue → InboundQueue) : (x.modifyQueue l f).borrowed = x.borrowed := rfl
@[simp] theorem PortState.modifyQueue_creditWait (x : PortState) (l : Lane) (f : InboundQueue → InboundQueue) : (x.modifyQueue l f).creditWait = x.creditWait := rfl
@[simp] theorem PortState.modifyQueue_tokens (x : PortState) (l : Lane) (f : InboundQueue → InboundQueue) : (x.modifyQueue l f).tokens = x.tokens := rfl
@[simp] theorem PortState.modifyQueue_interval (x : PortState) (l : Lane) (f : InboundQueue → InboundQueue) : (x.modifyQueue l f).interval = x.interval := rfl
@[simp] theorem PortState.modifyQueue_refillDue (x : PortState) (l : Lane) (f : InboundQueue → InboundQueue) : (x.modifyQueue l f).refillDue = x.refillDue := rfl
@[simp] theorem PortState.modifyQueue_sequence (x : PortState) (l : Lane) (f : InboundQueue → InboundQueue) : (x.modifyQueue l f).sequence = x.sequence := rfl
@[simp] theorem PortState.modifyQueue_heldPost (x : PortState) (l : Lane) (f : InboundQueue → InboundQueue) : (x.modifyQueue l f).heldPost = x.heldPost := rfl
@[simp] theorem PortState.modifyQueue_deadline (x : PortState) (l : Lane) (f : InboundQueue → InboundQueue) : (x.modifyQueue l f).deadline = x.deadline := rfl
@[simp] theorem PortState.modifyQueue_notices (x : PortState) (l : Lane) (f : InboundQueue → InboundQueue) : (x.modifyQueue l f).notices = x.notices := rfl
@[simp] theorem PortState.modifyQueue_latched (x : PortState) (l : Lane) (f : InboundQueue → InboundQueue) : (x.modifyQueue l f).latched = x.latched := rfl
@[simp] theorem PortState.modifyQueue_enables (x : PortState) (l : Lane) (f : InboundQueue → InboundQueue) : (x.modifyQueue l f).enables = x.enables := rfl
@[simp] theorem PortState.modifyQueue_meters (x : PortState) (l : Lane) (f : InboundQueue → InboundQueue) : (x.modifyQueue l f).meters = x.meters := rfl
@[simp] theorem PortState.modifyQueue_threshold (x : PortState) (l : Lane) (f : InboundQueue → InboundQueue) : (x.modifyQueue l f).threshold = x.threshold := rfl
@[simp] theorem PortState.modifyQueue_samplesDue (x : PortState) (l : Lane) (f : InboundQueue → InboundQueue) : (x.modifyQueue l f).samplesDue = x.samplesDue := rfl

@[simp] theorem PortState.refill_session (x : PortState) : (x.refill).session = x.session := rfl
@[simp] theorem PortState.refill_epoch (x : PortState) : (x.refill).epoch = x.epoch := rfl
@[simp] theorem PortState.refill_engine (x : PortState) : (x.refill).engine = x.engine := rfl
@[simp] theorem PortState.refill_chipSelect (x : PortState) : (x.refill).chipSelect = x.chipSelect := rfl
@[simp] theorem PortState.refill_miso (x : PortState) : (x.refill).miso = x.miso := rfl
@[simp] theorem PortState.refill_config (x : PortState) : (x.refill).config = x.config := rfl
@[simp] theorem PortState.refill_reservedUse (x : PortState) : (x.refill).reservedUse = x.reservedUse := rfl
@[simp] theorem PortState.refill_borrowed (x : PortState) : (x.refill).borrowed = x.borrowed := rfl
@[simp] theorem PortState.refill_creditWait (x : PortState) : (x.refill).creditWait = x.creditWait := rfl
@[simp] theorem PortState.refill_sequence (x : PortState) : (x.refill).sequence = x.sequence := rfl
@[simp] theorem PortState.refill_heldPost (x : PortState) : (x.refill).heldPost = x.heldPost := rfl
@[simp] theorem PortState.refill_inbound (x : PortState) : (x.refill).inbound = x.inbound := rfl
@[simp] theorem PortState.refill_deadline (x : PortState) : (x.refill).deadline = x.deadline := rfl
@[simp] theorem PortState.refill_notices (x : PortState) : (x.refill).notices = x.notices := rfl
@[simp] theorem PortState.refill_latched (x : PortState) : (x.refill).latched = x.latched := rfl
@[simp] theorem PortState.refill_enables (x : PortState) : (x.refill).enables = x.enables := rfl
@[simp] theorem PortState.refill_meters (x : PortState) : (x.refill).meters = x.meters := rfl
@[simp] theorem PortState.refill_threshold (x : PortState) : (x.refill).threshold = x.threshold := rfl
@[simp] theorem PortState.refill_samplesDue (x : PortState) : (x.refill).samplesDue = x.samplesDue := rfl

@[simp] theorem PortState.attach_engine (x : PortState) : (x.attach).engine = x.engine := rfl
@[simp] theorem PortState.attach_chipSelect (x : PortState) : (x.attach).chipSelect = x.chipSelect := rfl
@[simp] theorem PortState.attach_miso (x : PortState) : (x.attach).miso = x.miso := rfl
@[simp] theorem PortState.attach_config (x : PortState) : (x.attach).config = x.config := rfl
@[simp] theorem PortState.attach_reservedUse (x : PortState) : (x.attach).reservedUse = x.reservedUse := rfl
@[simp] theorem PortState.attach_borrowed (x : PortState) : (x.attach).borrowed = x.borrowed := rfl
@[simp] theorem PortState.attach_creditWait (x : PortState) : (x.attach).creditWait = x.creditWait := rfl
@[simp] theorem PortState.attach_interval (x : PortState) : (x.attach).interval = x.interval := rfl
@[simp] theorem PortState.attach_refillDue (x : PortState) : (x.attach).refillDue = x.refillDue := rfl
@[simp] theorem PortState.attach_heldPost (x : PortState) : (x.attach).heldPost = x.heldPost := rfl
@[simp] theorem PortState.attach_inbound (x : PortState) : (x.attach).inbound = x.inbound := rfl
@[simp] theorem PortState.attach_notices (x : PortState) : (x.attach).notices = x.notices := rfl
@[simp] theorem PortState.attach_enables (x : PortState) : (x.attach).enables = x.enables := rfl
@[simp] theorem PortState.attach_threshold (x : PortState) : (x.attach).threshold = x.threshold := rfl
@[simp] theorem PortState.attach_samplesDue (x : PortState) : (x.attach).samplesDue = x.samplesDue := rfl

@[simp] theorem PortState.setPace_session (x : PortState) (v : Nat) : (x.setPace v).session = x.session := rfl
@[simp] theorem PortState.setPace_epoch (x : PortState) (v : Nat) : (x.setPace v).epoch = x.epoch := rfl
@[simp] theorem PortState.setPace_engine (x : PortState) (v : Nat) : (x.setPace v).engine = x.engine := rfl
@[simp] theorem PortState.setPace_chipSelect (x : PortState) (v : Nat) : (x.setPace v).chipSelect = x.chipSelect := rfl
@[simp] theorem PortState.setPace_miso (x : PortState) (v : Nat) : (x.setPace v).miso = x.miso := rfl
@[simp] theorem PortState.setPace_config (x : PortState) (v : Nat) : (x.setPace v).config = x.config := rfl
@[simp] theorem PortState.setPace_reservedUse (x : PortState) (v : Nat) : (x.setPace v).reservedUse = x.reservedUse := rfl
@[simp] theorem PortState.setPace_borrowed (x : PortState) (v : Nat) : (x.setPace v).borrowed = x.borrowed := rfl
@[simp] theorem PortState.setPace_creditWait (x : PortState) (v : Nat) : (x.setPace v).creditWait = x.creditWait := rfl
@[simp] theorem PortState.setPace_tokens (x : PortState) (v : Nat) : (x.setPace v).tokens = x.tokens := rfl
@[simp] theorem PortState.setPace_sequence (x : PortState) (v : Nat) : (x.setPace v).sequence = x.sequence := rfl
@[simp] theorem PortState.setPace_inbound (x : PortState) (v : Nat) : (x.setPace v).inbound = x.inbound := rfl
@[simp] theorem PortState.setPace_deadline (x : PortState) (v : Nat) : (x.setPace v).deadline = x.deadline := rfl
@[simp] theorem PortState.setPace_notices (x : PortState) (v : Nat) : (x.setPace v).notices = x.notices := rfl
@[simp] theorem PortState.setPace_latched (x : PortState) (v : Nat) : (x.setPace v).latched = x.latched := rfl
@[simp] theorem PortState.setPace_enables (x : PortState) (v : Nat) : (x.setPace v).enables = x.enables := rfl
@[simp] theorem PortState.setPace_meters (x : PortState) (v : Nat) : (x.setPace v).meters = x.meters := rfl
@[simp] theorem PortState.setPace_threshold (x : PortState) (v : Nat) : (x.setPace v).threshold = x.threshold := rfl
@[simp] theorem PortState.setPace_samplesDue (x : PortState) (v : Nat) : (x.setPace v).samplesDue = x.samplesDue := rfl

end Machine
end Sys2Proof
end

