-- ==== Sys2Proof/Laws/Ops.lean ====
section
/-! SUPPORT. One lemma per shared operation that says what it can do. -/

namespace Sys2Proof
namespace Machine

/-! ## Handles (R6) -/

theorem handleOf_toNat (g : Fin 512) (i : DescIndex) : (handleOf g i).toNat = g.val * 128 + i.val := by
  have := g.isLt
  have := i.isLt
  simp only [handleOf, BitVec.toNat_ofNat]
  omega

theorem handleIndex_val (h : Handle) : (handleIndex h).val = h.toNat % 128 := rfl

theorem handleGeneration_val (h : Handle) : (handleGeneration h).val = h.toNat / 128 := by
  have := h.isLt
  change h.toNat / 128 % 512 = _
  omega

/-! ## Answers, session, claim -/

theorem State.answer_port (s : State) (p q : Port) (r : Result) (b : List Byte) :
    (s.answer p r b).port q
      = if q = p then { s.port p with engine := .held { result := r, payload := b } } else s.port q :=
  State.port_modifyPort _ _ _ _

theorem refuse_eq (p : Port) (r : Result) (s : State) : refuse p r s = .next (s.answer p r []) := rfl

theorem sessionCheck_eq_none {o : Bool} {p : Port} {s : State} :
    sessionCheck o p s = none ↔ (s.port p).session = .attached ∨ o = true ∧ (s.port p).session = .offline := by
  unfold sessionCheck
  split <;> rename_i h <;> cases o <;> simp [h]

theorem State.holdsClaim_iff {s : State} {p : Port} : s.holdsClaim p = true ↔ ∃ n, s.claim = some ⟨p, n⟩ := by
  unfold State.holdsClaim
  split
  · rename_i c h
    obtain ⟨q, n⟩ := c
    simp only [h, decide_eq_true_eq, Option.some.injEq, Claim.mk.injEq]
    exact ⟨fun e => ⟨n, e, rfl⟩, fun ⟨_, e, _⟩ => e⟩
  · rename_i h
    simp [h]

theorem claimCheck_eq_none {p : Port} {s : State} : claimCheck p s = none ↔ s.holdsClaim p = true := by
  unfold claimCheck
  split <;> simp [*]

@[simp] theorem State.dropClaim_port (s : State) (q : Port) : s.dropClaim.port q = s.port q := rfl
@[simp] theorem State.dropClaim_desc (s : State) (i : DescIndex) : s.dropClaim.desc i = s.desc i := rfl
@[simp] theorem State.dropClaim_claim (s : State) : s.dropClaim.claim = none := rfl
@[simp] theorem State.dropClaim_leaseDue (s : State) : s.dropClaim.leaseDue = false := rfl
@[simp] theorem State.grantClaim_port (s : State) (p q : Port) : (s.grantClaim p).port q = s.port q := rfl
@[simp] theorem State.grantClaim_desc (s : State) (p : Port) (i : DescIndex) : (s.grantClaim p).desc i = s.desc i := rfl
@[simp] theorem State.grantClaim_claim (s : State) (p : Port) :
    (s.grantClaim p).claim = some { holder := p, lease := Config.claimLease } := rfl

/-- A lease event is left by a CLAIM only if the issuer held the claim before it. -/
theorem State.grantClaim_leaseDue (s : State) (p : Port) :
    (s.grantClaim p).leaseDue = if s.claim = none then false else s.leaseDue && s.holdsClaim p := by
  unfold State.grantClaim State.holdsClaim
  cases s.claim <;> simp

@[simp] theorem State.renewLease_leaseDue (s : State) (p : Port) : (s.renewLease p).leaseDue = s.leaseDue := by
  unfold State.renewLease
  split <;> rfl

@[simp] theorem State.renewLease_port (s : State) (p q : Port) : (s.renewLease p).port q = s.port q := by
  unfold State.renewLease
  split <;> rfl

@[simp] theorem State.renewLease_desc (s : State) (p : Port) (i : DescIndex) : (s.renewLease p).desc i = s.desc i := by
  unfold State.renewLease
  split <;> rfl

/-- A lease renewal changes the claim alone. -/
theorem State.renewLease_eq (s : State) (p : Port) :
    s.renewLease p
      = { s with claim := if s.holdsClaim p then some { holder := p, lease := Config.claimLease } else s.claim } := by
  unfold State.renewLease
  split <;> rfl

@[simp] theorem State.renewLease_holdsClaim (s : State) (p q : Port) :
    (s.renewLease p).holdsClaim q = s.holdsClaim q := by
  unfold State.renewLease
  split
  · rename_i h
    obtain ⟨n, hn⟩ := State.holdsClaim_iff.mp h
    simp [State.holdsClaim, hn]
  · rfl

/-! ## Notices -/

/-- What an offer does to each port (R111). -/
theorem State.offer_port (s : State) (p q : Port) (n : Notice) :
    (s.offer p n).port q
      = if q = p ∧ (s.port p).session = .attached then
          if (s.port p).notices.length < Config.noticeDepth then { s.port p with notices := (s.port p).notices ++ [n] }
          else (s.port p).raise .noticeLost
        else s.port q := by
  unfold State.offer State.raiseOn
  by_cases hq : q = p
  · subst hq
    split
    · split <;> simp [*]
    · simp [*]
  · split
    · split <;> simp [State.port_modifyPort_ne _ _ hq, hq]
    · simp [hq]

/-- An offer changes ports alone. -/
theorem State.offer_eq (s : State) (p : Port) (n : Notice) : s.offer p n = { s with ports := (s.offer p n).ports } := by
  unfold State.offer
  split
  · split <;> rfl
  · rfl

@[simp] theorem State.offer_desc (s : State) (p : Port) (n : Notice) (i : DescIndex) :
    (s.offer p n).desc i = s.desc i := by
  rw [State.offer_eq]
  rfl

@[simp] theorem State.offer_table (s : State) (p : Port) (n : Notice) : (s.offer p n).table = s.table := by
  rw [State.offer_eq]

@[simp] theorem State.offer_freeList (s : State) (p : Port) (n : Notice) : (s.offer p n).freeList = s.freeList := by
  rw [State.offer_eq]

/-! ## Credit -/

/-- What a granted charge is (R27). -/
theorem State.grant_eq_some {s : State} {p : Port} {l : Lane} {k : Nat} {c : Charge} :
    s.grant p l k = some c ↔
      c.reserved = min k ((s.port p).config.reserved.get l - (s.port p).reservedUse.get l)
        ∧ c.shared = k - c.reserved ∧ c.shared ≤ s.sharedCapacity - s.totalBorrowed
        ∧ (s.port p).borrowed + c.shared ≤ (s.port p).config.borrowCeiling := by
  obtain ⟨r, sh⟩ := c
  unfold State.grant
  simp only []
  split
  · rename_i h
    simp only [Option.some.injEq, Charge.mk.injEq]
    constructor
    · rintro ⟨rfl, rfl⟩
      exact ⟨rfl, rfl, h.1, h.2⟩
    · rintro ⟨h1, h2, -, -⟩
      exact ⟨h1.symm, by rw [h2, h1]⟩
  · rename_i h
    constructor
    · intro e
      cases e
    · rintro ⟨h1, h2, h3, h4⟩
      subst h1 h2
      exact absurd ⟨h3, h4⟩ h

/-- A granted charge covers the whole message (R27). -/
theorem State.grant_total {s : State} {p : Port} {l : Lane} {k : Nat} {c : Charge} (h : s.grant p l k = some c) :
    c.reserved + c.shared = k := by
  obtain ⟨h1, h2, -, -⟩ := State.grant_eq_some.mp h
  omega

/-- What resolving a marker leaves of a port (R32). -/
theorem PortState.resolveMarker_eq (x : PortState) :
    x.resolveMarker = { x with
      creditWait := false, latched := if x.creditWait then x.latched ||| LatchedFlag.creditFreed.mask else x.latched } := by
  cases h : x.creditWait
  · simp only [PortState.resolveMarker, h]
    obtain ⟨⟩ := x
    cases h
    rfl
  · simp [PortState.resolveMarker, h, PortState.raise]

/-- What a refund leaves of each port (R29, R32). -/
theorem State.refund_port (s : State) (m : Message) (q : Port) :
    (s.refund m).port q
      = let x := if q = m.source then (s.port q).uncharge m.lane m.split else s.port q
        if m.resolves q then x.resolveMarker else x := by
  unfold State.refund State.resolveMarkers
  simp only [State.port_mapPorts, State.port_with_freeList, State.port_modifyPort]
  by_cases hq : q = m.source
  · subst hq
    simp
  · simp [hq]

/-- A refund changes ports and the free list alone (R29, R22). -/
theorem State.refund_eq (s : State) (m : Message) :
    s.refund m = { s with ports := (s.refund m).ports, freeList := s.freeList ++ m.chain } := rfl

@[simp] theorem State.refund_desc (s : State) (m : Message) (i : DescIndex) : (s.refund m).desc i = s.desc i := rfl

@[simp] theorem State.refund_table (s : State) (m : Message) : (s.refund m).table = s.table := rfl

/-! ## The message table -/

/-- A message that is not yet delivered has no readers remaining (R2, R4). -/
theorem DescState.readersRemaining_undelivered {d : DescState} {m : Message} (h : d.undelivered? = some m) :
    d.readersRemaining = some 0 := by
  cases d
  · cases h
  · rfl
  · rfl
  · cases h

@[simp] theorem DescState.readersRemaining_live (m : Message) (d : Delivery) :
    (DescState.live m d).readersRemaining = some d.readers := rfl

/-- Readers remaining is present exactly where a message is (R2). -/
theorem DescState.readersRemaining_isSome (d : DescState) : d.readersRemaining.isSome = d.message?.isSome := by
  cases d <;> rfl

/-- An allocated descriptor is the FREE one with the lowest index (R10). -/
theorem State.lowestFree_eq_some {s : State} {i : DescIndex} (h : s.lowestFree = some i) :
    (s.desc i).state = .free ∧ ∀ j : DescIndex, j < i → (s.desc j).state ≠ .free := by
  unfold State.lowestFree at h
  obtain ⟨hi, as, bs, hsplit, has⟩ := List.find?_eq_some_iff_append.mp h
  refine ⟨by simpa using hi, fun j hj => ?_⟩
  have hmem : j ∈ List.finRange 128 := List.mem_finRange j
  rw [hsplit, List.mem_append, List.mem_cons] at hmem
  have hsorted : (as ++ i :: bs).Pairwise (· < ·) := hsplit ▸ List.pairwise_lt_finRange 128
  rcases hmem with hm | rfl | hm
  · simpa using has j hm
  · exact absurd hj (lt_irrefl _)
  · have := (List.pairwise_cons.mp (List.pairwise_append.mp hsorted).2.1).1 j hm
    exact absurd (lt_trans hj this) (lt_irrefl _)

theorem State.lowestFree_eq_none {s : State} : s.lowestFree = none ↔ ∀ i : DescIndex, (s.desc i).state ≠ .free := by
  simp [State.lowestFree]

/-- What the handle validation of a source-side command finds (R7). -/
theorem State.sourceSide_eq_ok {s : State} {p : Port} {h : Handle} {d : DescState} :
    s.sourceSide p h = .ok d ↔
      (s.desc (handleIndex h)).state = d ∧ (s.desc (handleIndex h)).generation = handleGeneration h
        ∧ ∃ m, d.message? = some m ∧ m.source = p := by
  unfold State.sourceSide
  simp only
  split
  · rename_i hm
    constructor
    · intro e
      cases e
    · rintro ⟨rfl, -, m, hm', -⟩
      rw [hm] at hm'
      cases hm'
  · rename_i m hm
    split
    · rename_i hg
      constructor
      · intro e
        cases e
      · rintro ⟨-, hg', -⟩
        exact absurd hg' hg
    · rename_i hg
      split
      · rename_i hp
        constructor
        · intro e
          cases e
        · rintro ⟨rfl, -, m', hm', hp'⟩
          rw [hm] at hm'
          cases hm'
          exact absurd hp' hp
      · rename_i hp
        constructor
        · intro e
          cases e
          exact ⟨rfl, not_not.mp hg, m, hm, not_not.mp hp⟩
        · rintro ⟨rfl, -, -⟩
          rfl

/-- The message of an entry is the LIVE one of the entry's descriptor, under the entry's own handle (R91). -/
theorem State.liveEntry_eq_some {s : State} {e : Entry} {m : Message} {d : Delivery} :
    s.liveEntry e = some (m, d) ↔
      (s.desc (handleIndex e.handle)).state = .live m d
        ∧ (s.desc (handleIndex e.handle)).generation = handleGeneration e.handle := by
  unfold State.liveEntry
  simp only
  split
  · rename_i m' d' h
    split
    · simp_all
    · simp_all
  · rename_i h
    constructor
    · intro e
      cases e
    · rintro ⟨h', -⟩
      exact absurd h' (h m d)

/-- The head of a queue is its first entry with its LIVE message. -/
theorem State.head_eq_some {s : State} {p : Port} {l : Lane} {hd : Head} (h : s.head p l = some (some hd)) :
    (∃ rest, (s.queue p l).entries = hd.entry :: rest) ∧ s.liveEntry hd.entry = some (hd.message, hd.delivery) := by
  unfold State.head at h
  split at h
  · cases h
  · rename_i e rest he
    split at h
    · rename_i m d hl
      cases h
      exact ⟨⟨rest, he⟩, hl⟩
    · cases h

/-- The end of a chip-select period changes its port's period alone (R171). -/
theorem State.endPeriod_eq (s : State) (p : Port) :
    s.endPeriod p = s.setPort p { s.port p with chipSelect := .high } := State.modifyPort_eq _ _ _

/-! ## Frames and taking -/

/-- What a frame event is, by the chip-select period (R147, R172). -/
theorem State.frame_lost {s : State} {p : Port} (h : (s.port p).chipSelect = .lost) (g : Byte → List Byte)
    (act : State → State) : s.frame p g act = s.modifyPort p fun x => { x with chipSelect := .high } := by
  unfold State.frame State.endPeriod
  rw [h]

theorem State.frame_begun {s : State} {p : Port} {b : Byte} (h : (s.port p).chipSelect = .begun b)
    (g : Byte → List Byte) (act : State → State) :
    s.frame p g act = act (s.modifyPort p fun x => { x with chipSelect := .high, miso := g b }) := by
  unfold State.frame
  rw [h]

theorem State.frame_high {s : State} {p : Port} (h : (s.port p).chipSelect = .high) (g : Byte → List Byte)
    (act : State → State) : s.frame p g act = act (s.modifyPort p fun x => { x with miso := g x.statusByte }) := by
  unfold State.frame
  rw [h]

/-- An accepted command is taken (R178). -/
theorem issue_accepted {p : Port} {code : Byte} {args : List Byte} {s : State}
    (body : List Byte → State → StepOutcome) (ha : argsFit args = true)
    (he : (s.port p).engine = .accepted (CommandFrame.of code args)) :
    issue p code args body s = takeCommand p (CommandFrame.of code args) body s := by
  simp [issue, ha, he]

/-- A command of an allowed length goes on from the session step, over at most 72 argument bytes (R174, R184). -/
theorem takeCommand_allowed {p : Port} {code : Byte} {args : List Byte} {s : State}
    (body : List Byte → State → StepOutcome) (hl : lengthAllowed code args.length = true) :
    takeCommand p (CommandFrame.of code args) body s = body (args.take 72) (s.renewLease p) := by
  simp [takeCommand, CommandFrame.of, hl]

/-- A command of a length that its code does not allow is refused (R184). -/
theorem takeCommand_not_allowed {p : Port} {code : Byte} {args : List Byte} {s : State}
    (body : List Byte → State → StepOutcome) (hl : lengthAllowed code args.length = false) :
    takeCommand p (CommandFrame.of code args) body s = .next (s.answer p .badCommand []) := by
  simp [takeCommand, CommandFrame.of, hl, refuse]

/-- What `issue` can do: the frame arrives and is not taken, or the command is taken from an accepted frame (log entry 4). -/
theorem issue_cases (p : Port) (code : Byte) (args : List Byte) (body : List Byte → State → StepOutcome) (s : State) :
    issue p code args body s = .next s ∨ issue p code args body s = .next (s.commandFrame p (frameBytes code args))
      ∨ ∃ t, (t = s ∨ t = s.commandFrame p (frameBytes code args))
          ∧ (t.port p).engine = .accepted (CommandFrame.of code args)
          ∧ issue p code args body s = takeCommand p (CommandFrame.of code args) body t := by
  by_cases ha : argsFit args = true
  · by_cases h : (s.port p).engine = .accepted (CommandFrame.of code args)
    · exact .inr (.inr ⟨s, .inl rfl, h, issue_accepted body ha h⟩)
    · by_cases h' : ((s.commandFrame p (frameBytes code args)).port p).engine = .accepted (CommandFrame.of code args)
      · exact .inr (.inr ⟨_, .inr rfl, h', by simp [issue, ha, h, h']⟩)
      · exact .inr (.inl (by simp [issue, ha, h, h']))
  · exact .inl (by simp [issue, ha])

end Machine
end Sys2Proof
end

