-- ==== Sys2Proof/Laws/Pool.lean ====
section
/-! SUPPORT. The cell pool: what a store and a zero fill do, and that every operation on the pool keeps its canonical
form. -/

namespace Sys2Proof
namespace Machine

/-- Every listed address lies above `a`. -/
def Pool.above (a : Nat) (m : Pool) : Prop := ∀ e ∈ m, a < e.1

theorem Pool.lookup_of_above {a : Nat} {m : Pool} (h : Pool.above a m) : m.lookup a = StoredWord.blank := by
  induction m with
  | nil => rfl
  | cons e rest ih =>
    obtain ⟨b, v⟩ := e
    have hb : a < b := h (b, v) (by simp)
    have hr : Pool.above a rest := fun e he => h e (by simp [he])
    simp [Pool.lookup, Nat.ne_of_lt hb, ih hr]

theorem Pool.sorted_tail {b : Nat} {v : StoredWord} {rest : Pool}
    (h : List.Pairwise (fun x y : Nat × StoredWord => x.1 < y.1) ((b, v) :: rest)) : Pool.above b rest :=
  fun e he => (List.pairwise_cons.mp h).1 e he

/-- A listed entry of a stored pool is the stored one or one that was listed. -/
theorem Pool.mem_store {m : Pool} {a : Nat} {w : StoredWord} {e : Nat × StoredWord} (h : e ∈ m.store a w) :
    (e = (a, w) ∧ w ≠ StoredWord.blank) ∨ e ∈ m := by
  induction m with
  | nil =>
    unfold Pool.store at h
    split at h
    · cases h
    · exact .inl ⟨by simpa using h, ‹_›⟩
  | cons x rest ih =>
    obtain ⟨b, v⟩ := x
    unfold Pool.store at h
    split at h
    · split at h
      · exact .inr h
      · rcases List.mem_cons.mp h with h | h
        · exact .inl ⟨h, ‹_›⟩
        · exact .inr h
    · split at h
      · split at h
        · exact .inr (List.mem_cons_of_mem _ h)
        · rcases List.mem_cons.mp h with h | h
          · exact .inl ⟨h, ‹_›⟩
          · exact .inr (List.mem_cons_of_mem _ h)
      · rcases List.mem_cons.mp h with h | h
        · exact .inr (by simp [h])
        · rcases ih h with h | h
          · exact .inl h
          · exact .inr (List.mem_cons_of_mem _ h)

theorem Pool.above_store {c a : Nat} {m : Pool} {w : StoredWord} (h : Pool.above c m) (hc : c < a) :
    Pool.above c (m.store a w) := by
  intro e he
  rcases Pool.mem_store he with ⟨rfl, -⟩ | he
  · exact hc
  · exact h e he

/-- A store keeps the addresses rising. -/
theorem Pool.sorted_store {m : Pool} (a : Nat) (w : StoredWord)
    (h : List.Pairwise (fun x y : Nat × StoredWord => x.1 < y.1) m) :
    List.Pairwise (fun x y : Nat × StoredWord => x.1 < y.1) (m.store a w) := by
  induction m with
  | nil =>
    unfold Pool.store
    split <;> simp
  | cons x rest ih =>
    obtain ⟨b, v⟩ := x
    have hb := Pool.sorted_tail h
    have hr := (List.pairwise_cons.mp h).2
    unfold Pool.store
    split
    · rename_i hab
      split
      · exact h
      · refine List.pairwise_cons.mpr ⟨fun e he => ?_, h⟩
        rcases List.mem_cons.mp he with rfl | he
        · exact hab
        · exact Nat.lt_trans hab (hb e he)
    · split
      · rename_i hab
        subst hab
        split
        · exact hr
        · exact List.pairwise_cons.mpr ⟨fun e he => hb e he, hr⟩
      · rename_i h1 h2
        have hba : b < a := by omega
        exact List.pairwise_cons.mpr ⟨fun e he => Pool.above_store hb hba e he, ih hr⟩

/-- A store inside the pool keeps the canonical form. -/
theorem Pool.wf_store {m : Pool} {a : Nat} {w : StoredWord} (h : m.wf) (ha : a < 4096) : (m.store a w).wf := by
  refine ⟨Pool.sorted_store a w h.1, fun e he => ?_⟩
  rcases Pool.mem_store he with ⟨rfl, hw⟩ | he
  · exact ⟨hw, ha⟩
  · exact h.2 e he

/-- A zero fill keeps the canonical form. -/
theorem Pool.wf_zeroFill {m : Pool} (c : CellIndex) (h : m.wf) : (m.zeroFill c).wf :=
  ⟨h.1.sublist List.filter_sublist, fun e he => h.2 e (List.mem_of_mem_filter he)⟩

/-- What a store leaves at every address. -/
theorem Pool.lookup_store {m : Pool} (a b : Nat) (w : StoredWord)
    (h : List.Pairwise (fun x y : Nat × StoredWord => x.1 < y.1) m) :
    (m.store a w).lookup b = if b = a then w else m.lookup b := by
  induction m with
  | nil =>
    by_cases hw : w = StoredWord.blank <;> by_cases hb : b = a <;> simp [Pool.store, Pool.lookup, hw, hb]
  | cons x rest ih =>
    obtain ⟨c, v⟩ := x
    have hc := Pool.sorted_tail h
    have hr := (List.pairwise_cons.mp h).2
    have ha : a ≤ c → Pool.lookup rest a = StoredWord.blank := fun hac =>
      Pool.lookup_of_above fun e he => Nat.lt_of_le_of_lt hac (hc e he)
    unfold Pool.store
    split
    · rename_i hac
      split
      · rename_i hw
        by_cases hb : b = a
        · subst hb
          simp [Pool.lookup, Nat.ne_of_lt hac, ha (Nat.le_of_lt hac), hw]
        · simp [hb]
      · simp [Pool.lookup]
    · split
      · rename_i hac
        subst hac
        split
        · rename_i hw
          by_cases hb : b = a
          · subst hb
            simp [ha (Nat.le_refl _), hw]
          · simp [Pool.lookup, hb]
        · by_cases hb : b = a <;> simp [Pool.lookup, hb]
      · rename_i h1 h2
        by_cases hb : b = c
        · subst hb
          simp [Pool.lookup, Ne.symm h2]
        · simp [Pool.lookup, hb, ih hr]

/-- What a zero fill leaves at every address. -/
theorem Pool.lookup_zeroFill (m : Pool) (c : CellIndex) (b : Nat) :
    (m.zeroFill c).lookup b = if b / 8 = c.val then StoredWord.blank else m.lookup b := by
  induction m with
  | nil => simp [Pool.zeroFill, Pool.lookup]
  | cons x rest ih =>
    obtain ⟨a, v⟩ := x
    have ih' : Pool.lookup (List.filter (fun e => decide (e.1 / 8 ≠ c.val)) rest) b
        = if b / 8 = c.val then StoredWord.blank else Pool.lookup rest b := ih
    by_cases ha : a / 8 = c.val
    · simp only [Pool.zeroFill, List.filter_cons, ha, ne_eq, not_true_eq_false, decide_false, Bool.false_eq_true,
        if_false, Pool.lookup]
      by_cases hb : b = a
      · subst hb
        simpa [ha] using ih'
      · simpa [hb] using ih'
    · simp only [Pool.zeroFill, List.filter_cons, ha, ne_eq, not_false_eq_true, decide_true, if_true, Pool.lookup]
      by_cases hb : b = a
      · subst hb
        simp [ha]
      · simpa [hb] using ih'

/-- Every address of a message's words lies in the pool. -/
theorem wordAddresses_lt {chain : List CellIndex} {w count : Nat} {l : List Nat}
    (h : wordAddresses chain w count = some l) : ∀ a ∈ l, a < 4096 := by
  induction count generalizing w l with
  | zero =>
    simp only [wordAddresses, Option.some.injEq] at h
    subst h
    simp
  | succ n ih =>
    simp only [wordAddresses] at h
    split at h
    · rename_i c rest _ hrest
      simp only [Option.some.injEq] at h
      subst h
      intro a ha
      rcases List.mem_cons.mp ha with rfl | ha
      · have := c.isLt
        omega
      · exact ih hrest a ha
    · cases h

/-- A READ keeps the canonical form. -/
theorem Pool.wf_readWords {l : List Nat} {m : Pool} (h : m.wf) (hl : ∀ a ∈ l, a < 4096) : (readWords l m).pool.wf := by
  induction l generalizing m with
  | nil => exact h
  | cons a rest ih =>
    have hr : ∀ b ∈ rest, b < 4096 := fun b hb => hl b (by simp [hb])
    simp only [readWords]
    split
    · exact ih h hr
    · exact ih (Pool.wf_store h (hl a (by simp))) hr
    · exact ih h hr

/-- A WRITE keeps the canonical form. -/
theorem Pool.wf_writeWords {l : List Nat} {m : Pool} (o w : Nat) (data : List Byte) (h : m.wf) (hl : ∀ a ∈ l, a < 4096) :
    (writeWords o data w l m).wf := by
  induction l generalizing m w with
  | nil => exact h
  | cons a rest ih =>
    exact ih (w + 1) (Pool.wf_store h (hl a (by simp))) fun b hb => hl b (by simp [hb])

/-- The zero fills of an OPEN keep the canonical form. -/
theorem Pool.wf_zeroFills {m : Pool} (cells : List CellIndex) (h : m.wf) : (cells.foldl Pool.zeroFill m).wf := by
  induction cells generalizing m with
  | nil => exact h
  | cons c rest ih => exact ih (Pool.wf_zeroFill c h)

/-- After power-on reset the pool stands in its canonical form. -/
theorem Pool.wf_reset : State.reset.pool.wf := ⟨List.Pairwise.nil, fun _ h => by cases h⟩

end Machine
end Sys2Proof
end

