-- ==== Sys2Proof/Laws/Taking.lean ====
section
/-! SUPPORT. What a command row and a frame row are once the port engine listens and has accepted the command's frame. -/

namespace Sys2Proof
namespace Machine

open Sys2Proof.Safety

/-- The model's length test is the table of R186. -/
theorem lengthAllowed_iff (code : Byte) (n : Nat) : lengthAllowed code n = true ↔ LengthFits code n := by
  have : argLengths = lengthTable := rfl
  simp only [lengthAllowed, LengthFits, this, List.any_eq_true, decide_eq_true_eq]

theorem lengthFits_le {code : Byte} {n : Nat} (h : LengthFits code n) : n ≤ 67 := by
  obtain ⟨r, hr, -, -, hn⟩ := h
  have : ∀ x ∈ lengthTable, x.2.2 ≤ 67 := by decide
  exact Nat.le_trans hn (this r hr)

/-- An accepted command of an allowed length goes on from the session step with the holder's lease renewed (R184, R153). -/
theorem issue_taken {p : Port} {code : Byte} {args : List Byte} {s : State} (body : List Byte → State → StepOutcome)
    (ha : Accepted s p code args) (hl : LengthFits code args.length) :
    issue p code args body s = body args (s.renewLease p) := by
  have hle := lengthFits_le hl
  rw [issue_accepted body (by simp only [argsFit, decide_eq_true_eq]; omega) ha,
    takeCommand_allowed body ((lengthAllowed_iff _ _).mpr hl), List.take_of_length_le (by omega)]

/-- An accepted command of a length that R186 does not allow is refused (R184). -/
theorem issue_badCommand {p : Port} {code : Byte} {args : List Byte} {s : State}
    (body : List Byte → State → StepOutcome) (ha : Accepted s p code args) (h255 : args.length ≤ 255)
    (hl : ¬LengthFits code args.length) : issue p code args body s = .next (s.answer p .badCommand []) := by
  rw [issue_accepted body (by simpa only [argsFit, decide_eq_true_eq] using h255) ha, takeCommand_not_allowed]
  simpa only [Bool.not_eq_true] using mt (lengthAllowed_iff _ _).mp hl

/-- A refusal of a taken command answers it and changes nothing else. -/
theorem refuse_renewed (p : Port) (r : Result) (s : State) :
    refuse p r (s.renewLease p) = .next (answered s p r []) := by
  simp [refuse, answered, holding, State.answer, State.modifyPort_eq]

theorem answer_renewed (p : Port) (r : Result) (b : List Byte) (s : State) :
    (s.renewLease p).answer p r b = answered s p r b := by
  simp [answered, holding, State.answer, State.modifyPort_eq]

/-- A frame of a listening port shifts out its status byte and `rest`, and then has its effect (R172). -/
theorem State.frame_listening {s : State} {p : Port} (h : Listening s p) {g : Byte → List Byte} {rest : List Byte}
    (hg : ∀ b, g b = b :: rest) (act : State → State) :
    s.frame p g act = act (s.setPort p (framed (s.port p) rest)) := by
  rcases hc : (s.port p).chipSelect with _ | b | _
  · rw [State.frame_high hc, State.modifyPort_eq, hg]
    have : ({ s.port p with miso := (s.port p).statusByte :: rest } : PortState) = framed (s.port p) rest := by
      simp only [framed, capturedStatus, hc]
    rw [this]
  · rw [State.frame_begun hc, State.modifyPort_eq, hg]
    simp only [framed, capturedStatus, hc]
  · exact absurd hc h

/-- A REG_READ frame of a listening port whose address byte completes (R182): it shifts out the status byte and the read, and
changes nothing else. -/
theorem State.regReadFrame_listening {s : State} {p : Port} (h : Listening s p) (address : Byte) (more : List Byte) :
    s.regReadFrame p (address :: more)
      = s.setPort p (framed (s.port p)
          ((0#8 :: 0#8 :: wordBytes (s.readRegister p address)
              ++ crc8 (address :: wordBytes (s.readRegister p address)) :: List.replicate (more.length - 6) 0#8).take
            (more.length + 1))) :=
  State.frame_listening h (g := regReadMiso address (s.readRegister p address) (more.length + 2)) (fun _ => rfl) fun t => t

/-- A REG_READ frame of a listening port that is cut before its address byte sets FRAME_ERROR (R182). -/
theorem State.regReadFrame_cut {s : State} {p : Port} (h : Listening s p) :
    s.regReadFrame p [] = s.setPort p ((framed (s.port p) []).raise .frameError) := by
  simp only [State.regReadFrame, State.brokenFrame]
  rw [State.frame_listening h (g := statusOnly 1) (rest := []) fun _ => rfl]
  simp [State.raiseOn, State.modifyPort_eq]

end Machine
end Sys2Proof
end

