-- ==== Sys2Proof/Tests/Slice0.lean ====
section
/-! SUPPORT. Tests: the WellFormed smoke tests, at most two small tests per command with results taken from the manual, and a
witness for the hypotheses of every statement of Sys2Proof/Certificates/Slice0/Obligations.lean. -/

namespace Sys2Proof
namespace Tests

open Sys2Proof.Machine Sys2Proof.Safety

-- One theorem after the other: each kernel evaluation would otherwise hold a thread of its own.
set_option Elab.async false

/-! ## Small states -/

/-- Every port ATTACHED, everything else as after power-on reset. -/
def hub : State := { State.reset with ports := PerPort.all { PortState.reset with session := .attached } }

/-- Change one port. -/
def on (p : Port) (f : PortState → PortState) (s : State) : State := s.setPort p (f (s.port p))

/-- The port's engine has accepted this command. -/
def sent (p : Port) (code : Byte) (args : List Byte) (s : State) : State :=
  on p (fun x => { x with engine := .accepted (CommandFrame.of code args) }) s

/-- The claim is held, with this lease. -/
def claimed (p : Port) (lease : Nat) (s : State) : State := { s with claim := some { holder := p, lease := lease } }

/-- Descriptor 4 in its generation 2, whose handle is 2 x 128 + 4 = 260. -/
def withMessage (d : DescState) (s : State) : State := s.setDesc 4 { generation := 2, state := d }

/-- The handle of that descriptor. -/
def h260 : Handle := 260#16

/-- A message of 100 bytes from P1 to P3 on ROUTINE, in the four first cells. -/
def note : Message :=
  { source := .p1, sourceEpoch := 1#8, lane := .routine, mode := .all, length := 100, chain := [0, 1, 2, 3]
    reservedCharge := 4, sharedCharge := 0, destinations := [.p3], tag := 66#16, fault := false }

/-- Its delivery to P3, not yet consumed. -/
def noteDelivery : Delivery :=
  { accepted := [.p3], refusedOffline := [], refusedFull := [], outcomes := [(.p3, .pending)], readers := 1, sequence := 7#16 }

/-- The cells of that message are charged to P1 and are not on the free list. -/
def charged (s : State) : State :=
  on .p1 (fun x => { x with reservedUse := { urgent := 0, routine := 4 } }) { s with freeList := allCells.drop 4 }

/-- The message is OPEN. -/
def opened : State := withMessage (.opened note) (charged hub)

/-- The message is HELD in the slot of P1, whose pacing is on, with this many releases begun. -/
def heldWith (releases : Nat) : State :=
  on .p1
    (fun x =>
      { x with
        config := { x.config with paceInterval := 500 }, interval := 500, tokens := 2
        heldPost := some { handle := h260, releases := releases } })
    (withMessage (.held note) (charged hub))

/-- The message is LIVE at the head of the ROUTINE queue of P3, arrived at tick 0. -/
def live : State :=
  on .p3 (fun x => { x with inbound := { x.inbound with routine := { entries := [{ handle := h260, arrival := 0#32 }], waiters := [], series := false } } })
    (withMessage (.live note noteDelivery) (charged hub))

/-- The port is DETACHING by this port's command, whose engine carries the detach. -/
def leaving (p issuer : Port) (s : State) : State :=
  on issuer (fun x => { x with engine := .detachInFlight p }) (on p (fun x => { x with session := .detaching issuer }) s)

/-- A queue of 32 entries of the live message. -/
def fullQueue : InboundQueue :=
  { entries := List.replicate 32 { handle := h260, arrival := 0#32 }, waiters := [.p0], series := false }

/-- A period of P0 has begun, and its status byte was captured. -/
def listening : State := on .p0 (fun x => { x with chipSelect := .begun 0x25#8 }) hub

/-- A claim about the next state, false of a fault or a refusal. -/
def after (o : StepOutcome) (f : State → Bool) : Bool :=
  match o with
  | .next s => f s
  | .fault _ => false
  | .refused _ => false

/-- The response that the port holds is this one. -/
def holds (p : Port) (r : Result) (payload : List Byte) (s : State) : Bool :=
  decide ((s.port p).engine = .held { result := r, payload := payload })

/-! ## WellFormed: one ill-formed term for each check -/

/-- A length byte counts at most 255 arguments. -/
theorem test_wf_refuses_long_args : (Instr.post .p0 (List.replicate 256 0#8)).wellFormed = false := by decide +kernel
/-- Byte 0 of 0x80 begins no command frame. -/
theorem test_wf_refuses_fetch_byte : (Instr.commandFrame .p0 [0x80#8, 0#8, 0#8]).wellFormed = false := by decide
/-- A frame without its CRC byte is not complete. -/
theorem test_wf_refuses_cut_frame : (Instr.commandFrame .p0 [0x31#8, 1#8, 0#8]).wellFormed = false := by decide
/-- A complete frame is not short. -/
theorem test_wf_refuses_whole_short_frame : (Instr.shortFrame .p0 [0x01#8, 0#8, 0x51#8]).wellFormed = false := by decide
/-- Byte 0 of 0x81 begins no command frame, short or not. -/
theorem test_wf_refuses_short_register_read : (Instr.shortFrame .p0 [0x81#8]).wellFormed = false := by decide
/-- A FETCH frame clocks at least its first byte. -/
theorem test_wf_refuses_empty_fetch : (Instr.fetch .p0 0).wellFormed = false := by decide
/-- Byte 0 of a register frame is 0x81 or 0x82. -/
theorem test_wf_refuses_other_kind : (Instr.regWrite .p0 [0x13#8, 0x18#8]).wellFormed = false := by decide
/-- 0x13 names POST. -/
theorem test_wf_refuses_known_code : (Instr.unknownCommandCode .p0 0x13#8 []).wellFormed = false := by decide
/-- 0x82 is no command code. -/
theorem test_wf_refuses_register_code : (Instr.unknownCommandCode .p0 0x82#8 []).wellFormed = false := by decide
/-- A good ATTACH frame. -/
theorem test_wf_accepts_attach_frame : (Instr.commandFrame .p0 [0x01#8, 0#8, 0x51#8]).wellFormed = true := by decide

/-! ## Commands -/

/-- R131: OFFLINE to ATTACHED, the epoch 1 in the payload. -/
theorem test_attach : after (exec (.attach .p1 []) (sent .p1 0x01#8 [] State.reset)) (fun t =>
    holds .p1 .ok [1#8] t && decide ((t.port .p1).session = .attached)) = true := by decide +kernel
/-- R131: WRONG_STATE from an ATTACHED port. -/
theorem test_attach_twice : after (exec (.attach .p1 []) (sent .p1 0x01#8 [] hub)) (holds .p1 .wrongState []) = true := by
  decide +kernel
/-- R133: DETACHING, the claim released, no response. -/
theorem test_detach : after (exec (.detach .p1 []) (sent .p1 0x02#8 [] (claimed .p1 5 hub))) (fun t =>
    decide ((t.port .p1).session = .detaching .p1 ∧ t.claim = none) && (t.port .p1).engine.isExecuting) = true := by
  decide +kernel
/-- R134: the target is DETACHING. -/
theorem test_force_detach : after (exec (.forceDetach .p0 [2#8]) (sent .p0 0x03#8 [2#8] (claimed .p0 5 hub))) (fun t =>
    decide ((t.port .p2).session = .detaching .p0)) = true := by decide +kernel
/-- R134: no port names itself. -/
theorem test_force_detach_self : after (exec (.forceDetach .p0 [0#8]) (sent .p0 0x03#8 [0#8] (claimed .p0 5 hub)))
    (holds .p0 .badArgument []) = true := by decide +kernel
/-- R27, R42: 256 bytes on URGENT take 8 cells, all reserved. -/
theorem test_open : after (exec (.openMessage .p1 [0#8, 1#8, 0#8, 1#8, 0#8, 0#8, 9#8])
    (sent .p1 0x10#8 [0#8, 1#8, 0#8, 1#8, 0#8, 0#8, 9#8] hub)) (fun t =>
      holds .p1 .ok [0#8, 0#8, 8#8, 8#8, 0#8] t && decide (t.freeList.head? = some 8)) = true := by decide +kernel
/-- R39: a length of 257 is BAD_ARGUMENT. -/
theorem test_open_too_long : after (exec (.openMessage .p1 [0#8, 1#8, 1#8, 1#8, 0#8, 0#8, 9#8])
    (sent .p1 0x10#8 [0#8, 1#8, 1#8, 1#8, 0#8, 0#8, 9#8] hub)) (holds .p1 .badArgument []) = true := by decide +kernel
/-- R47, R16: bytes 6 and 7 of the message are the two low bytes of word 1 of its first cell. -/
theorem test_write : after (exec (.write .p1 [1#8, 4#8, 6#8, 0xAA#8, 0xBB#8])
    (sent .p1 0x11#8 [1#8, 4#8, 6#8, 0xAA#8, 0xBB#8] opened)) (fun t =>
      holds .p1 .ok [] t && decide (t.pool = [(1, StoredWord.fresh 0x0000AABB#32)])) = true := by decide +kernel
/-- R46: 100 bytes end at byte 99. -/
theorem test_write_past_end : after (exec (.write .p1 [1#8, 4#8, 99#8, 0xAA#8, 0xBB#8])
    (sent .p1 0x11#8 [1#8, 4#8, 99#8, 0xAA#8, 0xBB#8] opened)) (holds .p1 .range []) = true := by decide +kernel
/-- R51, R11, R22: the descriptor is FREE in generation 3, the cells at the tail. -/
theorem test_abandon : after (exec (.abandon .p1 [1#8, 4#8]) (sent .p1 0x12#8 [1#8, 4#8] opened)) (fun t =>
    decide (t.desc 4 = { generation := 3, state := .free } ∧ t.freeList.drop 508 = [0, 1, 2, 3]
      ∧ (t.port .p1).reservedUse.routine = 0)) = true := by decide +kernel
/-- R57, R60: the first post of a session has sequence 0; P3 is bit 3 of the accepted set. -/
theorem test_post : after (exec (.post .p1 [1#8, 4#8]) (sent .p1 0x13#8 [1#8, 4#8] opened)) (fun t =>
    holds .p1 .ok [0#8, 0#8, 8#8, 0#8, 0#8] t
      && decide ((t.queue .p3 .routine).entries = [{ handle := h260, arrival := 0#32 }])) = true := by decide +kernel
/-- R59, R62: mode ALL and a full queue: QUEUE_FULL with its set, and the source waits. -/
theorem test_post_full : after (exec (.post .p1 [1#8, 4#8]) (sent .p1 0x13#8 [1#8, 4#8]
    (on .p3 (fun x => { x with inbound := { x.inbound with routine := fullQueue } }) opened))) (fun t =>
      holds .p1 .queueFull [0#8, 8#8] t && decide ((t.queue .p3 .routine).waiters = [.p0, .p1])) = true := by decide +kernel
/-- R86: handle, source, epoch, sequence, tag, length, lane, fault, age 3 ms at tick 3999, one entry. -/
theorem test_peek : after (exec (.peek .p3 [2#8]) (sent .p3 0x20#8 [2#8] { live with tick := 3999#32 }))
    (holds .p3 .ok [1#8, 4#8, 1#8, 1#8, 0#8, 7#8, 0#8, 66#8, 0#8, 100#8, 1#8, 0#8, 0#8, 0#8, 0#8, 3#8, 1#8]) = true := by
  decide +kernel
/-- R17: a word with one bit disturbed reads corrected and is written back. -/
theorem test_read_corrects : after (exec (.read .p3 [1#8, 4#8, 6#8, 2#8]) (sent .p3 0x21#8 [1#8, 4#8, 6#8, 2#8]
    { live with pool := [(1, { data := 0x0000AABA#32, coded := 0x0000AABB#32, codeFlips := 0#7 })] })) (fun t =>
      holds .p3 .ok [0xAA#8, 0xBB#8] t && decide (t.pool = [(1, StoredWord.fresh 0x0000AABB#32)])) = true := by decide +kernel
/-- R35, R36: two bits disturbed: DATA_FAULT with the bits as stored, and the fault mark. -/
theorem test_read_faults : after (exec (.read .p3 [1#8, 4#8, 6#8, 2#8]) (sent .p3 0x21#8 [1#8, 4#8, 6#8, 2#8]
    { live with pool := [(1, { data := 0x0000AAB8#32, coded := 0x0000AABB#32, codeFlips := 0#7 })] })) (fun t =>
      holds .p3 .dataFault [0xAA#8, 0xB8#8] t
        && decide ((t.desc 4).state = .live { note with fault := true } noteDelivery)) = true := by decide +kernel
/-- R92 to R94: the only reader's DONE retires the message and returns its notice to P1. -/
theorem test_done : after (exec (.done .p3 [1#8, 4#8]) (sent .p3 0x22#8 [1#8, 4#8] live)) (fun t =>
    decide ((t.desc 4).state = .free ∧ (t.port .p3).meters.consumed = 1 ∧ (t.port .p1).notices
      = [.returned h260 66#16 1#8 .routine 4 false [] [] [(.p3, .consumed)]])) = true := by decide +kernel
/-- R88: another handle is stale. -/
theorem test_done_stale : after (exec (.done .p3 [1#8, 5#8]) (sent .p3 0x22#8 [1#8, 5#8] live)) (holds .p3 .staleHandle [])
    = true := by decide +kernel
/-- R116, R187: one POSTED record of sixteen bytes behind the count. -/
theorem test_notices : after (exec (.notices .p1 [4#8]) (sent .p1 0x23#8 [4#8]
    (on .p1 (fun x => { x with notices := [.posted h260 66#16 7#16 [.p3] [] []] }) hub))) (fun t =>
      holds .p1 .ok [1#8, 2#8, 1#8, 4#8, 0#8, 66#8, 0#8, 7#8, 8#8, 0#8, 0#8, 0#8, 0#8, 0#8, 0#8, 0#8, 0#8] t
        && decide ((t.port .p1).notices = [])) = true := by decide +kernel
/-- R38 and the defaults of R148: 16, 32, 0, 4, 160, 0, 1 of 32, 64 tokens, PI 0, BD 64. -/
theorem test_account : after (exec (.account .p1 []) (sent .p1 0x30#8 [] opened))
    (holds .p1 .ok [16#8, 32#8, 0#8, 4#8, 0#8, 160#8, 0#8, 0#8, 1#8, 32#8, 0#8, 64#8, 0#8, 0#8, 0#8, 64#8]) = true := by
  decide +kernel
/-- R169: the values, then zero. -/
theorem test_meters : after (exec (.meters .p1 [1#8]) (sent .p1 0x31#8 [1#8]
    (on .p1 (fun x => { x with meters := { Meters.zero with posts := 258 } }) hub))) (fun t =>
      holds .p1 .ok (List.replicate 10 0#8 ++ [1#8, 2#8] ++ List.replicate 16 0#8) t
        && decide ((t.port .p1).meters = Meters.zero)) = true := by decide +kernel
/-- R152: granted with a lease of 2000. -/
theorem test_claim : after (exec (.claim .p2 []) (sent .p2 0x40#8 [] hub)) (fun t =>
    decide (t.claim = some { holder := .p2, lease := 2000 })) = true := by decide +kernel
/-- R152: held by another port. -/
theorem test_claim_held : after (exec (.claim .p2 []) (sent .p2 0x40#8 [] (claimed .p0 5 hub))) (fun t =>
    holds .p2 .claimHeld [] t && decide (t.claim = some { holder := .p0, lease := 5 })) = true := by decide +kernel
/-- R154, R158: only the holder releases. -/
theorem test_release : after (exec (.release .p2 []) (sent .p2 0x41#8 [] (claimed .p2 5 hub))) (fun t =>
    holds .p2 .ok [] t && decide (t.claim = none)) = true := by decide +kernel
/-- 9.7: P1 has 10 URGENT cells charged, so an allotment of 8 is IN_USE. -/
theorem test_configure_in_use : after (exec (.configure .p2 [1#8, 0#8, 0#8, 8#8]) (sent .p2 0x42#8 [1#8, 0#8, 0#8, 8#8]
    (claimed .p2 5 (on .p1 (fun x => { x with reservedUse := { urgent := 10, routine := 0 } }) hub))))
    (holds .p2 .inUse []) = true := by decide +kernel
/-- 9.7: lowering it to 12 raises SC from 320 to 324 and frees a waiting port. -/
theorem test_configure : after (exec (.configure .p2 [1#8, 0#8, 0#8, 12#8]) (sent .p2 0x42#8 [1#8, 0#8, 0#8, 12#8]
    (claimed .p2 5 (on .p3 (fun x => { x with creditWait := true }) hub)))) (fun t =>
      holds .p2 .ok [] t && decide (t.sharedCapacity = 324 ∧ (t.port .p3).latched = 0x00A0#15
        ∧ (t.port .p2).latched = 0#15)) = true := by decide +kernel
/-- R150 and the defaults of R148. -/
theorem test_config_read : after (exec (.configRead .p1 [3#8]) (sent .p1 0x43#8 [3#8] hub))
    (holds .p1 .ok [3#8, 16#8, 32#8, 0#8, 160#8, 32#8, 0#8, 0#8, 0#8, 64#8]) = true := by decide +kernel
/-- R144 to R146: the issuer has OK, every port is OFFLINE with HUB_RESET alone. -/
theorem test_hub_reset : after (exec (.hubReset .p0 []) (sent .p0 0x4F#8 [] (claimed .p0 5 opened))) (fun t =>
    holds .p0 .ok [] t && decide ((t.port .p3).session = .offline ∧ (t.port .p3).latched = 0x2000#15
      ∧ t.desc 4 = { generation := 3, state := .free } ∧ t.claim = none)) = true := by decide +kernel
/-- R184: BAD_COMMAND in any session state, even OFFLINE. -/
theorem test_unknown_code : after (exec (.unknownCommandCode .p0 0x7F#8 [1#8]) (sent .p0 0x7F#8 [1#8] State.reset))
    (holds .p0 .badCommand []) = true := by decide +kernel

/-! ## Frames -/

/-- R173, R175: a good ATTACH frame, CRC 0x51, is accepted. -/
theorem test_command_frame : after (exec (.commandFrame .p0 [0x01#8, 0#8, 0x51#8]) State.reset) (fun t =>
    decide ((t.port .p0).engine = .accepted { code := 1#8, length := 0, args := [] })) = true := by decide +kernel
/-- R175: a bad CRC. -/
theorem test_command_frame_bad : after (exec (.commandFrame .p0 [0x01#8, 0#8, 0x52#8]) State.reset) (fun t =>
    holds .p0 .frameCrc [] t && (t.port .p0).shows .frameError) = true := by decide +kernel
/-- R171, R176: a period with no complete byte is over, and nothing else. -/
theorem test_empty_period : after (exec (.csNFall .p3) live) (fun t =>
    after (exec (.shortFrame .p3 []) t) fun u => decide (u = live)) = true := by decide +kernel
/-- R176: FRAME_ERROR alone. -/
theorem test_short_frame : after (exec (.shortFrame .p0 [0x01#8, 0#8]) State.reset) (fun t =>
    decide ((t.port .p0).latched = 0x0800#15 ∧ (t.port .p0).engine = .idle)) = true := by decide +kernel
/-- R173, R180: OK with the epoch 1 has CRC 0xAF, which releases it. -/
theorem test_fetch : after (exec (.fetch .p0 5) (on .p0 (fun x => { x with engine := .held { result := .ok, payload := [1#8] } })
    State.reset)) (fun t => decide ((t.port .p0).miso = [0x80#8, 0#8, 1#8, 1#8, 0xAF#8] ∧ (t.port .p0).engine = .idle))
    = true := by decide +kernel
/-- R180: the CRC byte not clocked out, the response stays. -/
theorem test_fetch_cut : after (exec (.fetch .p0 4) (on .p0 (fun x => { x with engine := .held { result := .ok, payload := [1#8] } })
    State.reset)) (fun t => holds .p0 .ok [1#8] t) = true := by decide +kernel
/-- R182: FRAME_ERROR. -/
theorem test_reg_read_cut : after (exec (.regReadFrameCut .p0) State.reset) (fun t => (t.port .p0).shows .frameError) = true := by
  decide +kernel
/-- R183: TICK is read-only, so the frame is discarded. -/
theorem test_reg_write_read_only : after (exec (.regWrite .p0 (regWriteBytes 0x01#8 5#32)) State.reset) (fun t =>
    decide ((t.port .p0).latched = 0x0800#15 ∧ t.tick = 0#32)) = true := by decide +kernel
/-- R121: a 1 clears, a 0 keeps. -/
theorem test_event_flags : after (exec (.eventFlags .p0 0x2000#32) (on .p0 (fun x => { x with latched := 0x2020#15 }) hub))
    (fun t => decide ((t.port .p0).latched = 0x0020#15)) = true := by decide +kernel
/-- R122: bits that name no flag are stored as 0. -/
theorem test_event_enable : after (exec (.eventEnable .p0 0xFFFFFFFF#32) hub)
    (fun t => decide (t.readRegister .p0 0x19#8 = 0x7FFF#32)) = true := by decide +kernel
/-- R101: the two low bytes. -/
theorem test_deadline_write : after (exec (.deadlineWrite .p0 .routine 0x000A0010#32) hub)
    (fun t => decide ((t.port .p0).deadline = { urgent := 0#16, routine := 0x0010#16 })) = true := by decide +kernel
/-- R167. -/
theorem test_meter_threshold : after (exec (.meterThreshold .p0 100#32) hub)
    (fun t => decide ((t.port .p0).threshold = 100#32)) = true := by decide +kernel
/-- R172: an ATTACHED port with a message on ROUTINE. -/
theorem test_cs_n_fall : after (exec (.csNFall .p3) live) (fun t => decide ((t.port .p3).chipSelect = .begun 0x05#8)) = true
    := by decide +kernel
/-- R182, R188: a read of HUB_ID, byte 0 the status byte captured at the fall of CS_N, cut after the data bytes. -/
theorem test_reg_read : after (exec (.regWrite .p0 (0x81#8 :: List.replicate 6 0#8)) listening) (fun t => decide ((t.port .p0).miso
    = [0x25#8, 0#8, 0#8, 0x0A#8, 0x45#8, 0x04#8, 0x01#8] ∧ (t.port .p0).chipSelect = .high)) = true := by decide +kernel

/-! ## The hub's own events -/

/-- R147: everything initialized, a period in hand lost. -/
theorem test_power_on_reset : after (exec .powerOnReset (on .p3 (fun x => { x with chipSelect := .begun 5#8 }) live)) (fun t =>
    decide ((t.port .p3).chipSelect = .lost ∧ t.desc 4 = { generation := 0, state := .free })) = true := by decide +kernel
/-- R99: one lease event and one sampling per port. -/
theorem test_millisecond_mark : after (exec .millisecondMark (claimed .p2 2 { hub with markDue := true })) (fun t =>
    decide (t.markDue = false ∧ t.leaseDue = true ∧ (t.port .p2).samplesDue = 1)) = true := by decide +kernel
/-- R155: while the claim is unheld, a mark does nothing to it. -/
theorem test_mark_unheld : after (exec .millisecondMark { hub with markDue := true }) (fun t =>
    decide (t.claim = none ∧ t.leaseDue = false)) = true := by decide +kernel
/-- The state in which a deadline of 3 ms is examined at this tick. -/
def examined (tick : BitVec 32) : State :=
  on .p3
    (fun x =>
      { x with
        deadline := { urgent := 0#16, routine := 3#16 }
        inbound := { x.inbound with routine := { x.inbound.routine with series := true } } })
    { live with tick := tick }
/-- R102: 2999 microseconds are short of the deadline. -/
theorem test_examination_waits : after (exec (.examination .p3 .routine) (examined 2999#32)) (fun t =>
    decide ((t.queue .p3 .routine).series = false ∧ (t.queue .p3 .routine).entries.length = 1)) = true := by decide +kernel
/-- R103, R104: 3000 microseconds reach it. -/
theorem test_expiry : after (exec (.expiry .p3 .routine) (examined 3000#32)) (fun t =>
    decide ((t.queue .p3 .routine).entries = [] ∧ (t.port .p3).meters.expiries = 1
      ∧ (t.port .p3).notices = [.expired h260 66#16 .p1 7#16 .routine])) = true := by decide +kernel
/-- R155. -/
theorem test_lease_decrement : after (exec .leaseDecrement (claimed .p2 2 { hub with leaseDue := true })) (fun t =>
    decide (t.claim = some { holder := .p2, lease := 1 })) = true := by decide +kernel
/-- R155: CLAIM_LOST. -/
theorem test_claim_expiry : after (exec .claimExpiry (claimed .p2 1 { hub with leaseDue := true })) (fun t =>
    decide (t.claim = none ∧ (t.port .p2).latched = 0x0200#15)) = true := by decide +kernel
/-- R155: an idle hub takes the lease event that is due, and the claim expires. -/
theorem test_idle_expires : after (step (claimed .p2 1 { hub with leaseDue := true })) (fun t =>
    decide (t.claim = none ∧ t.leaseDue = false ∧ t.tick = 0#32)) = true := by decide +kernel
/-- 10.7: 40 cells charged, 30 of them borrowed; the second mark of a threshold of 60 sets METER_LIMIT. -/
theorem test_sampling : after (exec (.samplingEvent .p1) (on .p1
    (fun x =>
      { x with
        reservedUse := { urgent := 10, routine := 0 }, borrowed := 30, threshold := 60#32, samplesDue := 1
        meters := { Meters.zero with heldCellMs := 40, borrowMs := 30 } }) hub)) (fun t =>
    decide ((t.port .p1).meters = { Meters.zero with heldCellMs := 80, borrowMs := 60 }
      ∧ (t.port .p1).latched = 0x0400#15)) = true := by decide +kernel
/-- R66, R71: the third token does not cover four cells; the fourth does. -/
theorem test_refill : after (exec (.refill .p1) (on .p1 (fun x => { x with refillDue := true, tokens := 3 }) (heldWith 0)))
    (fun t => decide ((t.port .p1).tokens = 4 ∧ (t.port .p1).heldPost = some { handle := h260, releases := 1 })) = true := by
  decide +kernel
/-- R73: a POSTED notice, and four tokens spent. -/
theorem test_release_of_held_post : after (exec (.releaseOfHeldPost .p1) (on .p1 (fun x => { x with tokens := 4 }) (heldWith 1)))
    (fun t => decide ((t.port .p1).tokens = 0 ∧ (t.port .p1).heldPost = none
      ∧ (t.port .p1).notices = [.posted h260 66#16 0#16 [.p3] [] []])) = true := by decide +kernel
/-- R136: a held message is abandoned with its slot. -/
theorem test_detach_abandonment : after (exec (.detachAbandonment .p1 4) (leaving .p1 .p1 (heldWith 1))) (fun t =>
    decide ((t.desc 4).state = .free ∧ (t.port .p1).heldPost = none ∧ (t.port .p1).notices = [])) = true := by decide +kernel
/-- R137, R94: DISCARDED. -/
theorem test_flush : after (exec (.flush .p3 .routine) (leaving .p3 .p0 live)) (fun t =>
    decide ((t.port .p1).notices = [.returned h260 66#16 1#8 .routine 4 false [] [] [(.p3, .discarded)]])) = true := by
  decide +kernel
/-- R138. -/
theorem test_notice_queue_emptying : after (exec (.noticeQueueEmptying .p1) (leaving .p1 .p1
    (on .p1 (fun x => { x with notices := [.posted h260 66#16 7#16 [.p3] [] []] }) hub))) (fun t =>
      decide ((t.port .p1).notices = [])) = true := by decide +kernel
/-- R138: P0 leaves the waiter set of P3. -/
theorem test_waiter_removal : after (exec (.waiterRemoval .p0) (leaving .p0 .p0
    (on .p3 (fun x => { x with inbound := { x.inbound with routine := fullQueue } }) live))) (fun t =>
      decide ((t.queue .p3 .routine).waiters = [] ∧ (t.port .p0).latched = 0#15)) = true := by decide +kernel
/-- R139: a forced port has DETACHED, the others PEER_CHANGE, the issuer OK. -/
theorem test_detach_completion : after (exec (.detachCompletion .p2) (leaving .p2 .p0 hub)) (fun t =>
    holds .p0 .ok [] t && decide ((t.port .p2).latched = 0x4000#15 ∧ (t.port .p1).latched = 0x0100#15
      ∧ (t.port .p2).session = .offline)) = true := by decide +kernel
/-- R16: one disturbed bit is correctable, two are not. -/
theorem test_storage_upset : after (exec (.storageUpset 511 7 1#32 0#7) hub) (fun t =>
    decide ((t.pool.lookup 4095).classify = .correctable)) = true := by decide +kernel
/-- R16. -/
theorem test_storage_upset_code : after (exec (.storageUpset 0 0 1#32 1#7) hub) (fun t =>
    decide ((t.pool.lookup 0).classify = .uncorrectable)) = true := by decide +kernel

/-! ## Witnesses: for each statement with hypotheses, states and operands that meet them, for each clause -/

/-- A period of P0 is lost. -/
def lost : State := on .p0 (fun x => { x with chipSelect := .lost }) hub

/-- The table is full of FREE descriptors but one, and P1 sources it. -/
def capped : State := on .p1 (fun x => { x with config := { x.config with outstandingCap := 1 } }) opened

theorem witness_StepTakesTheFrontCommand :
    ({ hub with pending := [.powerOnReset, .csNFall .p0] } : State).pending = .powerOnReset :: [.csNFall .p0] := by
  decide +kernel

theorem witness_IdleStepPassesTime :
    (hub.pending = [] ∧ (∀ p, (hub.port p).refillDue = false) ∧ hub.markDue = false ∧ hub.leaseDue = false
      ∧ (∀ p, (hub.port p).samplesDue = 0) ∧ hub.refclk = true)
    ∧ (((on .p2 (fun x => { x with refillDue := true }) hub).port .p2).refillDue = true
      ∧ ∀ q : Port, q.toNat < Port.p2.toNat → ((on .p2 (fun x => { x with refillDue := true }) hub).port q).refillDue = false)
    ∧ ({ hub with markDue := true } : State).markDue = true ∧ ({ hub with leaseDue := true } : State).leaseDue = true
    ∧ (((on .p2 (fun x => { x with samplesDue := 1 }) hub).port .p2).samplesDue ≠ 0
      ∧ ∀ q : Port, q.toNat < Port.p2.toNat → ((on .p2 (fun x => { x with samplesDue := 1 }) hub).port q).samplesDue = 0)
    ∧ ({ hub with refclk := false } : State).refclk = false := by
  refine ⟨⟨rfl, fun p => by cases p <;> rfl, rfl, rfl, fun p => by cases p <;> rfl, rfl⟩, ⟨rfl, fun q h => ?_⟩, rfl, rfl,
    ⟨by decide +kernel, fun q h => ?_⟩, rfl⟩
  all_goals
    cases q
    · rfl
    · rfl
    · exact absurd h (by decide)
    · exact absurd h (by decide)

theorem witness_ModelRowConventions_frame :
    commandRow (.unknownCommandCode .p0 0x7F#8 (List.replicate 255 0#8)) = some (.p0, 0x7F#8, List.replicate 255 0#8)
    ∧ (List.replicate 255 0#8 : List Byte).length ≤ 255 ∧ (hub.port .p0).engine = .idle ∧ Listening hub .p0 := by decide +kernel

theorem witness_ModelRowConventions_events :
    (hub.port .p1).heldPost = none ∧ ((heldWith 0).port .p1).heldPost = some { handle := h260, releases := 0 }
    ∧ ((hub.port .p1).session = .attached ∨ (hub.port .p1).session = .offline)
    ∧ ((State.reset.port .p1).session = .attached ∨ (State.reset.port .p1).session = .offline)
    ∧ (hub.queue .p1 .urgent).entries = [] ∧ (live.desc 4).state.undelivered?.map Message.source ≠ some .p1
    ∧ (opened.desc 4).state.undelivered?.map Message.source ≠ some .p2 := by decide +kernel

theorem witness_HubResetTaken :
    Accepted (sent .p0 0x4F#8 [] (claimed .p0 1 opened)) .p0 0x4F#8 []
    ∧ ((sent .p0 0x4F#8 [] (claimed .p0 1 opened)).port .p0).session = .attached
    ∧ (sent .p0 0x4F#8 [] (claimed .p0 1 opened)).holdsClaim .p0 = true := by decide +kernel

theorem witness_MillisecondMarkDelivered : ({ hub with markDue := true } : State).markDue = true ∧ hub.markDue = false := by
  decide +kernel

theorem witness_StorageUpsetDisturbsOneWord :
    hub.pool.wf ∧ Pool.wf [(0, StoredWord.fresh 5#32), (4095, StoredWord.fresh 6#32)] := by decide +kernel

theorem witness_CommandFrameParsesAsSent :
    isCommandByte 0x7F#8 = true ∧ isCommandByte 0x83#8 = true ∧ ([] : List Byte).length ≤ 255
    ∧ (List.replicate 255 0#8 : List Byte).length ≤ 255 ∧ 0 < ([] : List Byte).length + 3 ∧ 2 < ([] : List Byte).length + 3
    ∧ 257 < (List.replicate 255 0#8 : List Byte).length + 3 := by decide +kernel

theorem witness_CommandFrameDecided :
    parseFrame [0x01#8, 0#8, 0x51#8] = some ({ code := 1#8, length := 0, args := [] }, true)
    ∧ parseFrame [0x01#8, 0#8, 0x52#8] = some ({ code := 1#8, length := 0, args := [] }, false)
    ∧ Listening listening .p0 ∧ (listening.port .p0).engine = .idle ∧ Listening (sent .p0 1#8 [] hub) .p0
    ∧ ((sent .p0 1#8 [] hub).port .p0).engine ≠ .idle := by decide +kernel

theorem witness_BrokenFramesDiscarded :
    (Listening listening .p0 ∧ isShortFrame [0x13#8] = true ∧ isShortFrame [0x13#8, 2#8, 0#8, 0#8] = true
      ∧ ([] : List Byte).length < 6 ∧ (List.replicate 5 0#8 : List Byte).length < 6
      ∧ (0#8 ≠ crc8 [0x82#8, 0x18#8, 0#8, 0#8, 0#8, 0#8] ∨ 0x18#8 ∉ [0x18#8, 0x19#8, 0x1A#8, 0x1B#8, 0x1C#8])
      ∧ (crc8 [0x82#8, 0x17#8, 0#8, 0#8, 0#8, 0#8] ≠ crc8 [0x82#8, 0x17#8, 0#8, 0#8, 0#8, 0#8]
        ∨ 0x17#8 ∉ [0x18#8, 0x19#8, 0x1A#8, 0x1B#8, 0x1C#8])
      ∧ (0#8 ≠ 0#8 ∨ 0x1D#8 ∉ [0x18#8, 0x19#8, 0x1A#8, 0x1B#8, 0x1C#8]))
    ∧ ((lost.port .p0).chipSelect = .lost ∧ 1 ≤ 1 ∧ (parseFrame [0x01#8, 0#8, 0x51#8]).isSome = true
      ∧ isShortFrame [0x01#8, 0#8] = true) := by decide +kernel

theorem witness_RegisterWritesStore : Listening listening .p0 ∧ Listening hub .p0 := by decide +kernel

theorem witness_EventFlagsWriteClears : Listening listening .p0 ∧ Listening hub .p0 := by decide +kernel

theorem witness_FetchReturnsAndReleases :
    1 ≤ 1 ∧ Listening hub .p0
    ∧ ((on .p0 (fun x => { x with engine := .held { result := .ok, payload := [1#8] } }) hub).port .p0).engine
      = .held { result := .ok, payload := [1#8] }
    ∧ Listening (on .p0 (fun x => { x with engine := .held { result := .ok, payload := [1#8] } }) hub) .p0
    ∧ (hub.port .p0).engine.isHeld = false := by decide +kernel

theorem witness_RegisterWindowShows :
    hub.claim = none ∧ (claimed .p3 1 hub).claim = some { holder := .p3, lease := 1 }
    ∧ ((on .p3 (fun x => { x with inbound := { urgent := fullQueue, routine := fullQueue } }) hub).queue .p3 .urgent).entries.length
      ≤ 32
    ∧ ((on .p3 (fun x => { x with inbound := { urgent := fullQueue, routine := fullQueue } }) hub).queue .p3 .routine).entries.length
      ≤ 32
    ∧ Listening listening .p0 ∧ listening.readRegister .p0 0x00#8 = 0x0A450401#32
    ∧ 0x1D#8 ∉ [0x00#8, 0x01#8, 0x02#8, 0x03#8, 0x04#8, 0x05#8, 0x06#8, 0x10#8, 0x11#8, 0x12#8, 0x18#8, 0x19#8, 0x1A#8, 0x1B#8,
      0x1C#8] := by decide +kernel

theorem witness_HeldResponseStays :
    DetachLaw (on .p0 (fun x => { x with engine := .held { result := .ok, payload := [1#8] } }) (leaving .p2 .p1 hub))
    ∧ ((on .p0 (fun x => { x with engine := .held { result := .ok, payload := [1#8] } }) (leaving .p2 .p1 hub)).port .p0).engine
      = .held { result := .ok, payload := [1#8] }
    ∧ after (exec (.detachCompletion .p2)
        (on .p0 (fun x => { x with engine := .held { result := .ok, payload := [1#8] } }) (leaving .p2 .p1 hub)))
        (fun _ => true) = true := by
  refine ⟨fun p q => ?_, by decide +kernel, by decide +kernel⟩
  cases p <;> cases q <;> decide +kernel

theorem witness_BadCommandRefused :
    (commandRow (.post .p0 [1#8]) = some (.p0, 0x13#8, [1#8]) ∧ [1#8].length ≤ 255
      ∧ Accepted (sent .p0 0x13#8 [1#8] State.reset) .p0 0x13#8 [1#8] ∧ ¬LengthFits 0x13#8 [1#8].length)
    ∧ (commandRow (.unknownCommandCode .p0 0xFF#8 (List.replicate 255 0#8)) = some (.p0, 0xFF#8, List.replicate 255 0#8)
      ∧ (List.replicate 255 0#8 : List Byte).length ≤ 255
      ∧ Accepted (sent .p0 0xFF#8 (List.replicate 255 0#8) hub) .p0 0xFF#8 (List.replicate 255 0#8)
      ∧ ¬LengthFits 0xFF#8 (List.replicate 255 0#8 : List Byte).length) := by decide +kernel

theorem witness_SessionStepRefuses :
    (commandRow (.post .p0 [1#8, 4#8]) = some (.p0, 0x13#8, [1#8, 4#8])
      ∧ Accepted (sent .p0 0x13#8 [1#8, 4#8] State.reset) .p0 0x13#8 [1#8, 4#8] ∧ LengthFits 0x13#8 [1#8, 4#8].length
      ∧ ((sent .p0 0x13#8 [1#8, 4#8] State.reset).port .p0).session = .offline
      ∧ 0x13#8 ∉ [0x01#8, 0x23#8, 0x30#8, 0x31#8])
    ∧ (commandRow (.account .p0 []) = some (.p0, 0x30#8, []) ∧ LengthFits 0x30#8 ([] : List Byte).length
      ∧ Accepted (sent .p0 0x30#8 [] (leaving .p0 .p1 hub)) .p0 0x30#8 []
      ∧ ((sent .p0 0x30#8 [] (leaving .p0 .p1 hub)).port .p0).session = .detaching .p1) := by decide +kernel

theorem witness_ClaimStepRefuses :
    commandRow (.configure .p0 [9#8, 9#8, 9#8, 9#8]) = some (.p0, 0x42#8, [9#8, 9#8, 9#8, 9#8])
    ∧ Accepted (sent .p0 0x42#8 [9#8, 9#8, 9#8, 9#8] (claimed .p1 1 hub)) .p0 0x42#8 [9#8, 9#8, 9#8, 9#8]
    ∧ LengthFits 0x42#8 [9#8, 9#8, 9#8, 9#8].length ∧ 0x42#8 ∈ [0x42#8, 0x03#8, 0x4F#8, 0x41#8]
    ∧ ((sent .p0 0x42#8 [9#8, 9#8, 9#8, 9#8] (claimed .p1 1 hub)).port .p0).session = .attached
    ∧ (sent .p0 0x42#8 [9#8, 9#8, 9#8, 9#8] (claimed .p1 1 hub)).holdsClaim .p0 = false := by decide +kernel

theorem witness_LeaseRenewedByHolder :
    (commandRow (.post .p0 [1#8, 4#8]) = some (.p0, 0x13#8, [1#8, 4#8])
      ∧ Accepted (sent .p0 0x13#8 [1#8, 4#8] (claimed .p0 1 hub)) .p0 0x13#8 [1#8, 4#8] ∧ LengthFits 0x13#8 [1#8, 4#8].length
      ∧ 0x13#8 ∉ [0x02#8, 0x41#8, 0x4F#8] ∧ (sent .p0 0x13#8 [1#8, 4#8] (claimed .p0 1 hub)).holdsClaim .p0 = true
      ∧ after (exec (.post .p0 [1#8, 4#8]) (sent .p0 0x13#8 [1#8, 4#8] (claimed .p0 1 hub))) (fun _ => true) = true)
    ∧ after (exec (.fetch .p0 1) (claimed .p0 1 hub)) (fun _ => true) = true := by decide +kernel

theorem witness_AttachStartsSession :
    (Accepted (sent .p1 0x01#8 [] State.reset) .p1 0x01#8 []
      ∧ ((sent .p1 0x01#8 [] State.reset).port .p1).session = .offline)
    ∧ (Accepted (sent .p1 0x01#8 [] hub) .p1 0x01#8 [] ∧ ((sent .p1 0x01#8 [] hub).port .p1).session = .attached) := by
  decide +kernel

theorem witness_DetachBegins :
    Accepted (sent .p1 0x02#8 [] (claimed .p1 1 hub)) .p1 0x02#8 []
    ∧ ((sent .p1 0x02#8 [] (claimed .p1 1 hub)).port .p1).session = .attached := by decide +kernel

/-- A FORCE_DETACH of this target by P0, which holds the claim, with P2 OFFLINE. -/
def forcing (target : Byte) : State :=
  sent .p0 0x03#8 [target] (claimed .p0 1 (on .p2 (fun x => { x with session := .offline }) hub))

theorem witness_ForceDetachDecided :
    (Accepted (forcing 3#8) .p0 0x03#8 [3#8] ∧ ((forcing 3#8).port .p0).session = .attached
      ∧ (forcing 3#8).holdsClaim .p0 = true ∧ 3#8 = BitVec.ofNat 8 Port.p3.toNat ∧ Port.p3 ≠ .p0
      ∧ ((forcing 3#8).port .p3).session = .attached)
    ∧ (Accepted (forcing 2#8) .p0 0x03#8 [2#8] ∧ ((forcing 2#8).port .p0).session = .attached
      ∧ (forcing 2#8).holdsClaim .p0 = true ∧ 2#8 = BitVec.ofNat 8 Port.p2.toNat ∧ Port.p2 ≠ .p0
      ∧ ((forcing 2#8).port .p2).session ≠ .attached)
    ∧ (Accepted (forcing 4#8) .p0 0x03#8 [4#8] ∧ ((forcing 4#8).port .p0).session = .attached
      ∧ (forcing 4#8).holdsClaim .p0 = true ∧ 4 ≤ (4#8 : Byte).toNat)
    ∧ (Accepted (forcing 0#8) .p0 0x03#8 [0#8] ∧ ((forcing 0#8).port .p0).session = .attached
      ∧ (forcing 0#8).holdsClaim .p0 = true ∧ 0#8 = BitVec.ofNat 8 Port.p0.toNat) := by decide +kernel

theorem witness_DetachWorkItems :
    (((leaving .p1 .p1 opened).port .p1).session = .detaching .p1
      ∧ ((leaving .p1 .p1 opened).desc 4).state = .opened note ∧ note.source = .p1)
    ∧ (((leaving .p1 .p0 (heldWith 1)).port .p1).session = .detaching .p0
      ∧ ((leaving .p1 .p0 (heldWith 1)).desc 4).state = .held note) := by decide +kernel

theorem witness_FlushDiscardsHead :
    ((leaving .p3 .p0 live).port .p3).session = .detaching .p0
    ∧ ((leaving .p3 .p0 live).queue .p3 .routine).entries = { handle := h260, arrival := 0#32 } :: []
    ∧ Names (leaving .p3 .p0 live) h260 (.live note noteDelivery) := by decide +kernel

theorem witness_DetachCompletes_ready :
    ((leaving .p2 .p0 hub).port .p2).session = .detaching .p0
    ∧ (∀ (i : DescIndex) (m : Message), ((leaving .p2 .p0 hub).desc i).state = .opened m
        ∨ ((leaving .p2 .p0 hub).desc i).state = .held m → m.source ≠ .p2)
    ∧ (∀ l : Lane, ((leaving .p2 .p0 hub).queue .p2 l).entries = []) ∧ ((leaving .p2 .p0 hub).port .p2).notices = []
    ∧ ((leaving .p2 .p0 hub).port .p2).creditWait = false
    ∧ (∀ (q : Port) (l : Lane), Port.p2 ∉ ((leaving .p2 .p0 hub).queue q l).waiters)
    ∧ (Port.p0 = .p2 ∨ ((leaving .p2 .p0 hub).port .p2).engine.isExecuting = false) := by
  have free : ∀ i : DescIndex, ((leaving .p2 .p0 hub).desc i).state = .free := by decide +kernel
  refine ⟨by decide +kernel, fun i m h => ?_, fun l => by cases l <;> decide +kernel, by decide +kernel, by decide +kernel,
    fun q l => by cases q <;> cases l <;> decide +kernel, by decide +kernel⟩
  simp [free i] at h

/-- P1 is DETACHING by the command of P0, with all that keeps a detach from completing. -/
def blocked : State :=
  on .p1
    (fun x =>
      { x with
        creditWait := true, engine := .accepted { code := 1#8, length := 0, args := [] }
        notices := [.posted h260 66#16 7#16 [.p3] [] []]
        inbound := { urgent := fullQueue, routine := { fullQueue with waiters := [.p1] } } })
    (leaving .p1 .p0 opened)

theorem witness_DetachCompletes_waits :
    (blocked.port .p1).session = .detaching .p0 ∧ (blocked.queue .p1 .urgent).entries ≠ [] ∧ (blocked.port .p1).notices ≠ []
    ∧ (blocked.port .p1).creditWait = true ∧ Port.p1 ∈ (blocked.queue .p1 .routine).waiters
    ∧ (Port.p0 ≠ .p1 ∧ (blocked.port .p1).engine.isExecuting = true)
    ∧ ((blocked.desc 4).state = .opened note ∧ note.source = .p1) := by decide +kernel

/-- An OPEN of this many bytes on a lane by P1 for P0 and P3 under tag 9. -/
def opening (l : Lane) (length : Nat) (s : State) : State := sent .p1 0x10#8 (openBytes l length [.p0, .p3] .best 9#16) s

theorem witness_OpenTaken :
    (1 ≤ 256 ∧ 256 ≤ 256 ∧ ValidDestinations .p1 [.p0, .p3]
      ∧ Accepted (opening .routine 256 opened) .p1 0x10#8 (openBytes .routine 256 [.p0, .p3] .best 9#16)
      ∧ ((opening .routine 256 opened).port .p1).session = .attached
      ∧ (opening .routine 256 opened).outstanding .p1 < ((opening .routine 256 opened).port .p1).config.outstandingCap
      ∧ ((opening .routine 256 opened).desc 0).state = .free
      ∧ (∀ j : DescIndex, j < 0 → ((opening .routine 256 opened).desc j).state ≠ .free)
      ∧ 8 = (256 + 31) / 32
      ∧ 8 = min 8 (((opening .routine 256 opened).port .p1).config.reserved.get .routine
          - ((opening .routine 256 opened).port .p1).reservedUse.get .routine)
      ∧ 0 = 8 - 8 ∧ 0 ≤ (opening .routine 256 opened).sharedCapacity - (opening .routine 256 opened).totalBorrowed
      ∧ ((opening .routine 256 opened).port .p1).borrowed + 0 ≤ ((opening .routine 256 opened).port .p1).config.borrowCeiling
      ∧ 8 ≤ (opening .routine 256 opened).freeList.length)
    ∧ ∃ s : State, Accepted s .p1 0x10#8 (openBytes .urgent 1 [.p0, .p3] .best 9#16) ∧ (s.port .p1).session = .attached
      ∧ s.outstanding .p1 < (s.port .p1).config.outstandingCap ∧ (s.desc 0).state = .free ∧ 1 = (1 + 31) / 32
      ∧ 0 = min 1 ((s.port .p1).config.reserved.get .urgent - (s.port .p1).reservedUse.get .urgent) ∧ 1 = 1 - 0
      ∧ 1 ≤ s.sharedCapacity - s.totalBorrowed ∧ (s.port .p1).borrowed + 1 ≤ (s.port .p1).config.borrowCeiling
      ∧ 1 ≤ s.freeList.length := by
  refine ⟨by decide +kernel,
    opening .urgent 1 (on .p1 (fun x => { x with reservedUse := { urgent := 16, routine := 0 } }) hub), by decide +kernel⟩

theorem witness_OpenRefused_argument :
    ((sent .p1 0x10#8 (List.replicate 7 0#8) hub).port .p1).session = .attached
    ∧ (List.replicate 7 0#8 : List Byte).length = 7
    ∧ Accepted (sent .p1 0x10#8 (List.replicate 7 0#8) hub) .p1 0x10#8 (List.replicate 7 0#8)
    ∧ ∀ l length ds mode tag, 1 ≤ length → length ≤ 256 → ValidDestinations .p1 ds →
        List.replicate 7 0#8 ≠ openBytes l length ds mode tag := by
  refine ⟨by decide +kernel, by decide +kernel, by decide +kernel, fun l length ds mode tag h1 h2 _ h => ?_⟩
  simp only [List.replicate, openBytes, be16Of, be16, List.cons_append, List.nil_append, List.cons.injEq] at h
  obtain ⟨-, hi, lo, -⟩ := h
  have h3 := congrArg BitVec.toNat hi
  have h4 := congrArg BitVec.toNat lo
  simp [BitVec.extractLsb'_toNat, Nat.shiftRight_eq_div_pow] at h3 h4
  omega

theorem witness_OpenRefused_room :
    (1 ≤ 1 ∧ 1 ≤ 256 ∧ ValidDestinations .p1 [.p0, .p3]
      ∧ Accepted (opening .urgent 1 capped) .p1 0x10#8 (openBytes .urgent 1 [.p0, .p3] .best 9#16)
      ∧ ((opening .urgent 1 capped).port .p1).session = .attached
      ∧ ((opening .urgent 1 capped).port .p1).config.outstandingCap ≤ (opening .urgent 1 capped).outstanding .p1)
    ∧ (∀ i : DescIndex, (({ hub with table := Vector.replicate 128 { generation := 0, state := .opened note } } : State).desc i).state
        ≠ .free)
    ∧ ∃ s : State, Accepted s .p1 0x10#8 (openBytes .urgent 1 [.p0, .p3] .best 9#16) ∧ (s.port .p1).session = .attached
      ∧ s.outstanding .p1 < (s.port .p1).config.outstandingCap ∧ (s.desc 0).state = .free ∧ 1 = (1 + 31) / 32
      ∧ 0 = min 1 ((s.port .p1).config.reserved.get .urgent - (s.port .p1).reservedUse.get .urgent) ∧ 1 = 1 - 0
      ∧ (s.port .p1).config.borrowCeiling < (s.port .p1).borrowed + 1 := by
  refine ⟨by decide +kernel, by decide +kernel,
    opening .urgent 1
      (on .p1 (fun x => { x with reservedUse := { urgent := 16, routine := 0 }, borrowed := 160 }) hub), by decide +kernel⟩

/-- A WRITE of this many zeros at an offset of the OPEN message. -/
def writing (off : Byte) (count : Nat) : State := sent .p1 0x11#8 (be16 h260 ++ off :: List.replicate count 0#8) opened

theorem witness_WriteStoresBytes :
    (1 ≤ (List.replicate 64 0#8 : List Byte).length ∧ (List.replicate 64 0#8 : List Byte).length ≤ 64
      ∧ (36#8 : Byte).toNat + (List.replicate 64 0#8 : List Byte).length ≤ note.length ∧ note.length ≤ 256
      ∧ note.length ≤ 32 * note.chain.length ∧ note.chain.Nodup ∧ (writing 36#8 64).pool.wf
      ∧ Accepted (writing 36#8 64) .p1 0x11#8 (be16 h260 ++ 36#8 :: List.replicate 64 0#8)
      ∧ ((writing 36#8 64).port .p1).session = .attached ∧ Names (writing 36#8 64) h260 (.opened note) ∧ note.source = .p1)
    ∧ ((0#8 : Byte).toNat + (List.replicate 1 0#8 : List Byte).length ≤ note.length
      ∧ Accepted (writing 0#8 1) .p1 0x11#8 (be16 h260 ++ 0#8 :: List.replicate 1 0#8))
    ∧ (byteAddress note 35 = some 8 ∧ byteAddress note 99 = some 24 ∧ byteAddress note 3 = some 0) := by decide +kernel

theorem witness_SourceHandleRefusals :
    (Accepted (writing 255#8 2) .p1 0x11#8 (be16 h260 ++ 255#8 :: List.replicate 2 0#8)
      ∧ ((writing 255#8 2).port .p1).session = .attached ∧ 256 < (255#8 : Byte).toNat + (List.replicate 2 0#8 : List Byte).length)
    ∧ (Accepted (writing 99#8 2) .p1 0x11#8 (be16 h260 ++ 99#8 :: List.replicate 2 0#8)
      ∧ (99#8 : Byte).toNat + (List.replicate 2 0#8 : List Byte).length ≤ 256 ∧ Names (writing 99#8 2) h260 (.opened note)
      ∧ note.source = .p1 ∧ note.length < (99#8 : Byte).toNat + (List.replicate 2 0#8 : List Byte).length)
    ∧ (Accepted (sent .p1 0x13#8 (be16 261#16) opened) .p1 0x13#8 (be16 261#16)
      ∧ ((sent .p1 0x13#8 (be16 261#16) opened).desc (handleIndex 261#16)).state = .free)
    ∧ (Accepted (sent .p1 0x13#8 (be16 132#16) opened) .p1 0x13#8 (be16 132#16)
      ∧ ((sent .p1 0x13#8 (be16 132#16) opened).desc (handleIndex 132#16)).generation ≠ handleGeneration 132#16)
    ∧ (Accepted (sent .p2 0x12#8 (be16 h260) opened) .p2 0x12#8 (be16 h260)
      ∧ ((sent .p2 0x12#8 (be16 h260) opened).port .p2).session = .attached
      ∧ Names (sent .p2 0x12#8 (be16 h260) opened) h260 (.opened note) ∧ note.source ≠ .p2)
    ∧ (Accepted (sent .p1 0x12#8 (be16 h260) live) .p1 0x12#8 (be16 h260)
      ∧ Names (sent .p1 0x12#8 (be16 h260) live) h260 (.live note noteDelivery))
    ∧ (Accepted (sent .p1 0x13#8 (be16 h260) (heldWith 0)) .p1 0x13#8 (be16 h260)
      ∧ Names (sent .p1 0x13#8 (be16 h260) (heldWith 0)) h260 (.held note)
      ∧ Instr.post .p1 (be16 h260) ≠ .abandon .p1 (be16 h260)) := by decide +kernel

theorem witness_AbandonRefunds :
    (Accepted (sent .p1 0x12#8 (be16 h260) opened) .p1 0x12#8 (be16 h260)
      ∧ ((sent .p1 0x12#8 (be16 h260) opened).port .p1).session = .attached
      ∧ Names (sent .p1 0x12#8 (be16 h260) opened) h260 (.opened note) ∧ note.source = .p1)
    ∧ (Accepted (sent .p1 0x12#8 (be16 h260) (heldWith 1)) .p1 0x12#8 (be16 h260)
      ∧ ((sent .p1 0x12#8 (be16 h260) (heldWith 1)).port .p1).session = .attached
      ∧ Names (sent .p1 0x12#8 (be16 h260) (heldWith 1)) h260 (.held note)) := by decide +kernel

/-- A POST of the OPEN message by P1. -/
def posting (s : State) : State := sent .p1 0x13#8 (be16 h260) s

/-- Pacing is on at P1, with this many tokens. -/
def paced (tokens : Nat) (s : State) : State :=
  on .p1 (fun x => { x with config := { x.config with paceInterval := 500 }, interval := 500, tokens := tokens }) s

/-- P3 has a full ROUTINE queue. -/
def crowded (s : State) : State := on .p3 (fun x => { x with inbound := { x.inbound with routine := fullQueue } }) s

theorem witness_PostDelivers :
    Accepted (posting (paced 4 opened)) .p1 0x13#8 (be16 h260) ∧ ((posting (paced 4 opened)).port .p1).session = .attached
    ∧ Names (posting (paced 4 opened)) h260 (.opened note) ∧ note.source = .p1
    ∧ PacedThrough ((posting (paced 4 opened)).port .p1) note.chain.length ∧ WouldDeliver (posting (paced 4 opened)) note := by
  refine ⟨by decide +kernel, by decide +kernel, by decide +kernel, by decide +kernel, by decide +kernel, ?_, ?_⟩ <;>
    decide +kernel

theorem witness_PostNotDelivered :
    (Accepted (posting (crowded opened)) .p1 0x13#8 (be16 h260) ∧ ((posting (crowded opened)).port .p1).session = .attached
      ∧ Names (posting (crowded opened)) h260 (.opened note) ∧ note.source = .p1
      ∧ PacedThrough ((posting (crowded opened)).port .p1) note.chain.length ∧ ¬WouldDeliver (posting (crowded opened)) note)
    ∧ (Accepted (posting (paced 3 opened)) .p1 0x13#8 (be16 h260) ∧ ((posting (paced 3 opened)).port .p1).session = .attached
      ∧ Names (posting (paced 3 opened)) h260 (.opened note)
      ∧ ¬PacedThrough ((posting (paced 3 opened)).port .p1) note.chain.length
      ∧ ((posting (paced 3 opened)).port .p1).heldPost = none)
    ∧ ((on .p1 (fun x => { x with heldPost := some { handle := 5#16, releases := 0 } }) (posting (paced 3 opened))).port .p1).heldPost
      ≠ none := by
  refine ⟨⟨by decide +kernel, by decide +kernel, by decide +kernel, by decide +kernel, by decide +kernel, fun h => ?_⟩,
    by decide +kernel, by decide +kernel⟩
  exact absurd h.2 (by decide +kernel)

theorem witness_RefillAddsToken :
    (((on .p1 (fun x => { x with refillDue := true }) (heldWith 0)).port .p1).refillDue = true
      ∧ 3 = min (((on .p1 (fun x => { x with refillDue := true }) (heldWith 0)).port .p1).tokens + 1)
        (max ((on .p1 (fun x => { x with refillDue := true }) (heldWith 0)).port .p1).tokens
          ((on .p1 (fun x => { x with refillDue := true }) (heldWith 0)).port .p1).config.bucketDepth)
      ∧ ((on .p1 (fun x => { x with refillDue := true }) (heldWith 0)).port .p1).heldPost
        = some { handle := h260, releases := 0 }
      ∧ Names (on .p1 (fun x => { x with refillDue := true }) (heldWith 0)) h260 (.held note))
    ∧ ((paced 64 hub).port .p1).heldPost = none ∧ ((paced 64 hub).port .p1).refillDue = false := by decide +kernel

theorem witness_ReleaseOfHeldPost :
    (((paced 4 (heldWith 1)).port .p1).heldPost = some { handle := h260, releases := 1 } ∧ 1 ≤ 1
      ∧ Names (paced 4 (heldWith 1)) h260 (.held note) ∧ note.source = .p1
      ∧ ((paced 4 (heldWith 1)).port .p1).session = .attached
      ∧ PacedThrough ((paced 4 (heldWith 1)).port .p1) note.chain.length ∧ WouldDeliver (paced 4 (heldWith 1)) note)
    ∧ (((crowded (paced 4 (heldWith 1))).port .p1).heldPost = some { handle := h260, releases := 1 }
      ∧ Names (crowded (paced 4 (heldWith 1))) h260 (.held note)
      ∧ ((crowded (paced 4 (heldWith 1))).port .p1).session = .attached
      ∧ PacedThrough ((crowded (paced 4 (heldWith 1))).port .p1) note.chain.length
      ∧ ¬WouldDeliver (crowded (paced 4 (heldWith 1))) note)
    ∧ (((paced 3 (heldWith 2)).port .p1).heldPost = some { handle := h260, releases := 2 }
      ∧ Names (paced 3 (heldWith 2)) h260 (.held note)
      ∧ ¬PacedThrough ((paced 3 (heldWith 2)).port .p1) note.chain.length)
    ∧ ((leaving .p1 .p0 (heldWith 1)).port .p1).session ≠ .attached := by
  refine ⟨⟨by decide +kernel, by decide +kernel, by decide +kernel, by decide +kernel, by decide +kernel, by decide +kernel,
      by decide +kernel, by decide +kernel⟩,
    ⟨by decide +kernel, by decide +kernel, by decide +kernel, by decide +kernel, fun h => absurd h.2 (by decide +kernel)⟩,
    by decide +kernel, by decide +kernel⟩

/-- A PEEK by P3 with this selection. -/
def peeking (sel : Byte) (s : State) : State := sent .p3 0x20#8 [sel] s

theorem witness_PeekReportsHead :
    (Accepted (peeking 3#8 live) .p3 0x20#8 [3#8] ∧ ((peeking 3#8 live).port .p3).session = .attached ∧ 3 ≤ (3#8 : Byte).toNat)
    ∧ (Accepted (peeking 0#8 live) .p3 0x20#8 [0#8] ∧ 0#8 = laneByte .urgent
      ∧ ((peeking 0#8 live).queue .p3 .urgent).entries = [])
    ∧ (Accepted (peeking 2#8 live) .p3 0x20#8 [2#8]
      ∧ (Lane.routine = .urgent ↔ ((peeking 2#8 live).queue .p3 .urgent).entries ≠ [])
      ∧ ((peeking 2#8 live).queue .p3 .routine).entries = { handle := h260, arrival := 0#32 } :: []
      ∧ Names (peeking 2#8 live) h260 (.live note noteDelivery)) := by decide +kernel

/-- A READ by P3 of the LIVE message. -/
def reading (off count : Byte) (s : State) : State := sent .p3 0x21#8 (be16 h260 ++ [off, count]) s

/-- Word 8 of the pool, which holds bytes 32 to 35 of the message, has two disturbed bits. -/
def broken : State := { live with pool := [(8, { data := 3#32, coded := 0#32, codeFlips := 0#7 })] }

theorem witness_ReadReturnsBytes :
    (1 ≤ (64#8 : Byte).toNat ∧ (64#8 : Byte).toNat ≤ 64 ∧ (36#8 : Byte).toNat + (64#8 : Byte).toNat ≤ note.length
      ∧ note.length ≤ 256 ∧ note.length ≤ 32 * note.chain.length ∧ note.chain.Nodup ∧ (reading 36#8 64#8 broken).pool.wf
      ∧ Accepted (reading 36#8 64#8 broken) .p3 0x21#8 (be16 h260 ++ [36#8, 64#8])
      ∧ ((reading 36#8 64#8 broken).port .p3).session = .attached
      ∧ ((reading 36#8 64#8 broken).queue .p3 .routine).entries = { handle := h260, arrival := 0#32 } :: []
      ∧ Names (reading 36#8 64#8 broken) h260 (.live note noteDelivery)
      ∧ ((((reading 36#8 64#8 broken).queue .p3 .urgent).entries.head?.map Entry.handle) ≠ some h260))
    ∧ (Accepted (reading 35#8 1#8 broken) .p3 0x21#8 (be16 h260 ++ [35#8, 1#8])
      ∧ byteAddress note (35 + 0) = some 8 ∧ ((reading 35#8 1#8 broken).pool.lookup 8).classify = .uncorrectable)
    ∧ (Accepted (reading 99#8 1#8 broken) .p3 0x21#8 (be16 h260 ++ [99#8, 1#8])
      ∧ (99#8 : Byte).toNat + (1#8 : Byte).toNat ≤ note.length
      ∧ ¬∃ j a : Nat, j < (1#8 : Byte).toNat ∧ byteAddress note ((99#8 : Byte).toNat + j) = some a
        ∧ ((reading 99#8 1#8 broken).pool.lookup a).classify = .uncorrectable) := by
  refine ⟨by decide +kernel, by decide +kernel, by decide +kernel, by decide +kernel, ?_⟩
  rintro ⟨j, a, hj, ha, hc⟩
  obtain rfl : j = 0 := Nat.lt_one_iff.mp hj
  obtain rfl : a = 24 := Option.some.inj (ha.symm.trans (by decide +kernel))
  exact absurd hc (by decide +kernel)

theorem witness_ReadRefused :
    (Accepted (reading 0#8 0#8 live) .p3 0x21#8 (be16 h260 ++ [0#8, 0#8]) ∧ ((reading 0#8 0#8 live).port .p3).session = .attached
      ∧ (0#8 : Byte).toNat = 0)
    ∧ (Accepted (reading 0#8 65#8 live) .p3 0x21#8 (be16 h260 ++ [0#8, 65#8]) ∧ 64 < (65#8 : Byte).toNat)
    ∧ (Accepted (reading 255#8 2#8 live) .p3 0x21#8 (be16 h260 ++ [255#8, 2#8]) ∧ 256 < (255#8 : Byte).toNat + (2#8 : Byte).toNat)
    ∧ (Accepted (reading 255#8 1#8 hub) .p3 0x21#8 (be16 h260 ++ [255#8, 1#8])
      ∧ (255#8 : Byte).toNat + (1#8 : Byte).toNat ≤ 256
      ∧ (((reading 255#8 1#8 hub).queue .p3 .urgent).entries.head?.map Entry.handle) ≠ some h260
      ∧ (((reading 255#8 1#8 hub).queue .p3 .routine).entries.head?.map Entry.handle) ≠ some h260)
    ∧ (Accepted (reading 100#8 1#8 live) .p3 0x21#8 (be16 h260 ++ [100#8, 1#8])
      ∧ (((reading 100#8 1#8 live).queue .p3 .routine).entries.head?.map Entry.handle) = some h260
      ∧ Names (reading 100#8 1#8 live) h260 (.live note noteDelivery)
      ∧ note.length < (100#8 : Byte).toNat + (1#8 : Byte).toNat) := by decide +kernel

theorem witness_DoneConsumesHead :
    (Accepted (sent .p3 0x22#8 (be16 h260) hub) .p3 0x22#8 (be16 h260)
      ∧ ((sent .p3 0x22#8 (be16 h260) hub).port .p3).session = .attached
      ∧ (((sent .p3 0x22#8 (be16 h260) hub).queue .p3 .urgent).entries.head?.map Entry.handle) ≠ some h260
      ∧ (((sent .p3 0x22#8 (be16 h260) hub).queue .p3 .routine).entries.head?.map Entry.handle) ≠ some h260)
    ∧ (Accepted (sent .p3 0x22#8 (be16 h260) (crowded live)) .p3 0x22#8 (be16 h260)
      ∧ ((sent .p3 0x22#8 (be16 h260) (crowded live)).port .p3).session = .attached
      ∧ (((sent .p3 0x22#8 (be16 h260) (crowded live)).queue .p3 .routine).entries.head?.map Entry.handle) = some h260
      ∧ (((sent .p3 0x22#8 (be16 h260) (crowded live)).queue .p3 .urgent).entries.head?.map Entry.handle) ≠ some h260
      ∧ Names (sent .p3 0x22#8 (be16 h260) (crowded live)) h260 (.live note noteDelivery)) := by decide +kernel

theorem witness_ExaminationExpiresHead :
    (hub.queue .p3 .routine).series = false
    ∧ (((examined 0#32).queue .p3 .routine).series = true ∧ ((examined 0#32).port .p3).deadline.get .routine ≠ 0#16
      ∧ ((examined 0#32).queue .p3 .routine).entries = { handle := h260, arrival := 0#32 } :: []
      ∧ Names (examined 0#32) h260 (.live note noteDelivery))
    ∧ ((2999#32 : Word) - 0#32).toNat < (3#16 : BitVec 16).toNat * 1000
    ∧ (3#16 : BitVec 16).toNat * 1000 ≤ ((3000#32 : Word) - 0#32).toNat
    ∧ ∃ s : State, (s.queue .p3 .urgent).series = true ∧ (s.port .p3).deadline.get .urgent = 0#16
      ∧ (s.queue .p3 .urgent).entries = [] := by
  refine ⟨by decide +kernel, by decide +kernel, by decide +kernel, by decide +kernel,
    on .p3 (fun x => { x with inbound := { x.inbound with urgent := { x.inbound.urgent with series := true } } }) hub,
    by decide +kernel⟩

/-- A NOTICES of this max by P1, which has one notice. -/
def collecting (max : Byte) : State :=
  sent .p1 0x23#8 [max] (on .p1 (fun x => { x with notices := [.posted h260 66#16 7#16 [.p3] [] []] }) hub)

theorem witness_NoticesCollected :
    (Accepted (collecting 0#8) .p1 0x23#8 [0#8] ∧ ((collecting 0#8).port .p1).session = .attached ∧ (0#8 : Byte).toNat = 0)
    ∧ (Accepted (collecting 5#8) .p1 0x23#8 [5#8] ∧ 4 < (5#8 : Byte).toNat)
    ∧ (Accepted (collecting 4#8) .p1 0x23#8 [4#8] ∧ (4#8 : Byte).toNat ≤ 4 ∧ ((collecting 4#8).port .p1).notices ≠ [])
    ∧ (Accepted (sent .p1 0x23#8 [1#8] State.reset) .p1 0x23#8 [1#8]
      ∧ ((sent .p1 0x23#8 [1#8] State.reset).port .p1).session = .offline
      ∧ ((sent .p1 0x23#8 [1#8] State.reset).port .p1).notices = [])
    ∧ [(Port.p0, ReaderOutcome.consumed), (.p2, .expired), (.p3, .discarded)].length ≤ 3 := by decide +kernel

theorem witness_PortFiguresReported :
    (Accepted (sent .p1 0x30#8 [] State.reset) .p1 0x30#8 [] ∧ ((sent .p1 0x30#8 [] State.reset).port .p1).session = .offline)
    ∧ (Accepted (sent .p1 0x31#8 [2#8] hub) .p1 0x31#8 [2#8] ∧ ((sent .p1 0x31#8 [2#8] hub).port .p1).session = .attached
      ∧ 2 ≤ (2#8 : Byte).toNat)
    ∧ (Accepted (sent .p1 0x31#8 [1#8] hub) .p1 0x31#8 [1#8] ∧ (1#8 : Byte).toNat ≤ 1)
    ∧ (Accepted (sent .p1 0x43#8 [BitVec.ofNat 8 Port.p3.toNat] hub) .p1 0x43#8 [BitVec.ofNat 8 Port.p3.toNat]
      ∧ ((sent .p1 0x43#8 [BitVec.ofNat 8 Port.p3.toNat] hub).port .p1).session = .attached) := by decide +kernel

theorem witness_SamplingAddsCharge :
    (hub.port .p1).samplesDue = 0 ∧ 1 ≤ ((on .p1 (fun x => { x with samplesDue := 1 }) hub).port .p1).samplesDue := by
  decide +kernel

theorem witness_ClaimLifeCycle :
    (((sent .p2 0x40#8 [] hub).port .p2).session = .attached ∧ Accepted (sent .p2 0x40#8 [] hub) .p2 0x40#8 []
      ∧ (sent .p2 0x40#8 [] hub).claim = none)
    ∧ (Accepted (sent .p2 0x40#8 [] (claimed .p0 1 hub)) .p2 0x40#8 [] ∧ (sent .p2 0x40#8 [] (claimed .p0 1 hub)).claim ≠ none
      ∧ (sent .p2 0x40#8 [] (claimed .p0 1 hub)).holdsClaim .p2 = false)
    ∧ (Accepted (sent .p2 0x41#8 [] (claimed .p2 1 hub)) .p2 0x41#8 []
      ∧ ((sent .p2 0x41#8 [] (claimed .p2 1 hub)).port .p2).session = .attached
      ∧ (sent .p2 0x41#8 [] (claimed .p2 1 hub)).holdsClaim .p2 = true)
    ∧ hub.leaseDue = false
    ∧ (({ hub with leaseDue := true } : State).leaseDue = true ∧ ({ hub with leaseDue := true } : State).claim = none)
    ∧ ((claimed .p2 2 { hub with leaseDue := true }).leaseDue = true
      ∧ (claimed .p2 2 { hub with leaseDue := true }).claim = some { holder := .p2, lease := 2 })
    ∧ (claimed .p2 1 { hub with leaseDue := true }).claim = some { holder := .p2, lease := 1 } := by decide +kernel

/-- A CONFIGURE by P2, which holds the claim, while P1 has 10 URGENT cells and 30 shared cells charged and one message. -/
def configuring (target field : Byte) (v : BitVec 16) : State :=
  sent .p2 0x42#8 ([target, field] ++ be16 v)
    (claimed .p2 1 (on .p1 (fun x => { x with reservedUse := { urgent := 10, routine := 4 }, borrowed := 30 }) opened))

theorem witness_ConfigureRefused :
    (Accepted (configuring 1#8 0#8 9#16) .p2 0x42#8 ([BitVec.ofNat 8 Port.p1.toNat, 0#8] ++ be16 9#16)
      ∧ ((configuring 1#8 0#8 9#16).port .p2).session = .attached ∧ (configuring 1#8 0#8 9#16).holdsClaim .p2 = true
      ∧ 0#8 = laneByte .urgent ∧ (9#16 : BitVec 16).toNat ≤ 128
      ∧ (9#16 : BitVec 16).toNat < ((configuring 1#8 0#8 9#16).port .p1).reservedUse.get .urgent)
    ∧ (Accepted (configuring 1#8 2#8 29#16) .p2 0x42#8 ([BitVec.ofNat 8 Port.p1.toNat, 2#8] ++ be16 29#16)
      ∧ (29#16 : BitVec 16).toNat < ((configuring 1#8 2#8 29#16).port .p1).borrowed)
    ∧ (1 ≤ (1#16 : BitVec 16).toNat
      ∧ (1#16 : BitVec 16).toNat < ((on .p1 (fun x => x) (configuring 1#8 3#8 1#16)).setDesc 5
          { generation := 0, state := .opened note }).outstanding .p1)
    ∧ (Accepted (configuring 4#8 0#8 9#16) .p2 0x42#8 ([4#8, 0#8] ++ be16 9#16) ∧ 4 ≤ (4#8 : Byte).toNat)
    ∧ (Accepted (configuring 1#8 6#8 9#16) .p2 0x42#8 ([1#8, 6#8] ++ be16 9#16) ∧ 6 ≤ (6#8 : Byte).toNat)
    ∧ (Accepted (configuring 1#8 1#8 129#16) .p2 0x42#8 ([1#8, 1#8] ++ be16 129#16) ∧ 128 < (129#16 : BitVec 16).toNat)
    ∧ (Accepted (configuring 1#8 2#8 513#16) .p2 0x42#8 ([1#8, 2#8] ++ be16 513#16) ∧ 512 < (513#16 : BitVec 16).toNat)
    ∧ (Accepted (configuring 1#8 3#8 65#16) .p2 0x42#8 ([1#8, 3#8] ++ be16 65#16) ∧ 64 < (65#16 : BitVec 16).toNat)
    ∧ (Accepted (configuring 1#8 5#8 7#16) .p2 0x42#8 ([1#8, 5#8] ++ be16 7#16) ∧ (7#16 : BitVec 16).toNat < 8)
    ∧ (Accepted (sent .p1 0x43#8 [4#8] hub) .p1 0x43#8 [4#8] ∧ ((sent .p1 0x43#8 [4#8] hub).port .p1).session = .attached) := by
  decide +kernel

theorem witness_ConfigureTaken :
    (fieldOf 0#8 = some (.reserved .urgent) ∧ (ConfigField.reserved .urgent).inRange (10#16 : BitVec 16).toNat = true
      ∧ Accepted (configuring 1#8 0#8 10#16) .p2 0x42#8 ([BitVec.ofNat 8 Port.p1.toNat, 0#8] ++ be16 10#16)
      ∧ ((configuring 1#8 0#8 10#16).port .p2).session = .attached ∧ (configuring 1#8 0#8 10#16).holdsClaim .p2 = true
      ∧ ((configuring 1#8 0#8 10#16).port .p1).reservedUse.get .urgent ≤ (10#16 : BitVec 16).toNat
      ∧ (configuring 1#8 0#8 10#16).totalAllotments - ((configuring 1#8 0#8 10#16).port .p1).config.reserved.get .urgent
          + (10#16 : BitVec 16).toNat ≤ 512
      ∧ ((configuring 1#8 0#8 10#16).port .p1).config.field (.reserved .urgent) ≠ (10#16 : BitVec 16).toNat)
    ∧ (fieldOf 2#8 = some .borrowCeiling ∧ Accepted (configuring 1#8 2#8 30#16) .p2 0x42#8 ([1#8, 2#8] ++ be16 30#16)
      ∧ ((configuring 1#8 2#8 30#16).port .p1).borrowed ≤ (30#16 : BitVec 16).toNat)
    ∧ (fieldOf 3#8 = some .outstandingCap ∧ Accepted (configuring 1#8 3#8 1#16) .p2 0x42#8 ([1#8, 3#8] ++ be16 1#16)
      ∧ (configuring 1#8 3#8 1#16).outstanding .p1 ≤ (1#16 : BitVec 16).toNat)
    ∧ (fieldOf 4#8 = some .paceInterval ∧ Accepted (configuring 1#8 4#8 0#16) .p2 0x42#8 ([1#8, 4#8] ++ be16 0#16)
      ∧ ((configuring 1#8 4#8 0#16).port .p1).config.field .paceInterval = (0#16 : BitVec 16).toNat)
    ∧ (fieldOf 5#8 = some .bucketDepth ∧ Accepted (configuring 1#8 5#8 8#16) .p2 0x42#8 ([1#8, 5#8] ++ be16 8#16)
      ∧ ConfigField.bucketDepth.inRange (8#16 : BitVec 16).toNat = true) := by decide +kernel

theorem witness_DescriptorLifeKept :
    (∃ t, exec (.post .p1 [1#8, 4#8]) (sent .p1 0x13#8 [1#8, 4#8] opened) = .next t ∧ (t.desc 4).state ≠ .free
      ∧ ((sent .p1 0x13#8 [1#8, 4#8] opened).desc 4).state.message? = some note ∧ (t.desc 4).state.message? = some note)
    ∧ ∃ t, exec (.done .p3 [1#8, 4#8]) (sent .p3 0x22#8 [1#8, 4#8] live) = .next t ∧ (t.desc 4).state = .free := by
  exact ⟨⟨_, rfl, by decide +kernel⟩, ⟨_, rfl, by decide +kernel⟩⟩

theorem witness_ProtectedStateKept :
    Instr.claim .p2 [] ≠ .powerOnReset ∧ after (exec (.claim .p2 []) hub) (fun _ => true) = true := by decide +kernel

theorem witness_LatchedFlagsStay :
    ((on .p2 (fun x => x.raise .queueSpace) hub).port .p2).shows .queueSpace = true
    ∧ after (exec (.claim .p2 []) (on .p2 (fun x => x.raise .queueSpace) hub)) (fun _ => true) = true := by decide +kernel

/-- The LIVE message read out by P3, as the next command. -/
def next : State := { sent .p3 0x22#8 [1#8, 4#8] live with pending := [.done .p3 [1#8, 4#8]] }

theorem next_config : ConfigLaw next := by
  refine ⟨fun p => ?_, by decide +kernel⟩
  cases p <;> decide +kernel

theorem next_credit : CreditLaw next := by
  refine ⟨fun p => ?_, by decide +kernel⟩
  cases p <;> decide +kernel

theorem next_cell : CellLaw next := by decide +kernel

theorem next_message : MessageLaw next := by decide +kernel

theorem next_charge : ChargeLaw next := fun p => by cases p <;> decide +kernel

theorem next_entry : EntryLaw next := fun p l => by cases p <;> cases l <;> decide +kernel

theorem next_mark : MarkLaw next :=
  ⟨by decide +kernel, fun h => absurd h (by decide +kernel), fun p => by cases p <;> decide +kernel, fun _ => by decide +kernel⟩

theorem next_free : ∀ i : DescIndex, i ≠ 4 → (next.desc i).state = .free := by decide +kernel

/-- A state with a LIVE message in which every law holds. -/
theorem next_lawful : Lawful next where
  config := next_config
  credit := next_credit
  cap := fun p => by cases p <;> decide +kernel
  pacing := fun p => by cases p <;> decide +kernel
  claim := fun p => by cases p <;> decide +kernel
  mark := next_mark
  queue := fun p l => by cases p <;> cases l <;> decide +kernel
  notice := fun p => by cases p <;> decide +kernel
  flag := fun p => by cases p <;> decide +kernel
  meter := fun p => by cases p <;> decide +kernel
  message := next_message
  cell := next_cell
  charge := next_charge
  freeCell := by decide +kernel
  entry := next_entry
  delivery := fun i => by
    by_cases h : i = 4
    · subst h
      exact ⟨by decide +kernel, by decide +kernel, by decide +kernel, fun p => by cases p <;> decide +kernel,
        fun p l => by cases p <;> cases l <;> decide +kernel⟩
    · simp only [next_free i h]
  split := fun i => by
    by_cases h : i = 4
    · subst h
      exact ⟨by decide +kernel, by decide +kernel, by decide +kernel⟩
    · simp only [next_free i h]
  held := ⟨fun p => by cases p <;> trivial, fun i => by
    by_cases h : i = 4
    · subst h
      trivial
    · simp only [next_free i h]⟩
  detach := fun p q => by cases p <;> cases q <;> decide +kernel
  offline := fun p => by cases p <;> decide +kernel
  pool := by decide +kernel

theorem next_steps : ∃ t, step next = .next t := ⟨_, rfl⟩

theorem witness_StepKeepsLimits : (∃ t, step next = .next t) ∧ ConfigLaw next ∧ CreditLaw next ∧ CapLaw next :=
  ⟨next_steps, next_config, next_credit, next_lawful.cap⟩

theorem witness_StepKeepsPacingAndClaim :
    (∃ t, step next = .next t) ∧ PacingLaw next ∧ ClaimLaw next ∧ MarkLaw next ∧ (claimed .p2 1 hub).holdsClaim .p2 = true :=
  ⟨next_steps, next_lawful.pacing, next_lawful.claim, next_lawful.mark, by decide +kernel⟩

theorem witness_StepKeepsBounds :
    (∃ t, step next = .next t) ∧ PoolLaw next ∧ QueueLaw next ∧ NoticeLaw next ∧ FlagLaw next ∧ MeterLaw next :=
  ⟨next_steps, next_lawful.pool, next_lawful.queue, next_lawful.notice, next_lawful.flag, next_lawful.meter⟩

theorem witness_StepKeepsCells : (∃ t, step next = .next t) ∧ CellLaw next := ⟨next_steps, next_cell⟩

theorem witness_StepKeepsCharges :
    (∃ t, step next = .next t) ∧ ConfigLaw next ∧ CreditLaw next ∧ MessageLaw next ∧ ChargeLaw next ∧ CellLaw next
    ∧ next.grant .p1 .routine 29 = some { reserved := 28, shared := 1 } :=
  ⟨next_steps, next_config, next_credit, next_message, next_charge, next_cell, by decide +kernel⟩

theorem witness_StepKeepsDeliveries :
    (∃ t, step next = .next t) ∧ MessageLaw next ∧ EntryLaw next ∧ DeliveryLaw next ∧ SplitLaw next
    ∧ (next.desc 4).state = .live note noteDelivery :=
  ⟨next_steps, next_message, next_entry, next_lawful.delivery, next_lawful.split, by decide +kernel⟩

theorem witness_StepKeepsSlotsAndSessions :
    (∃ t, step next = .next t) ∧ HeldLaw next ∧ DetachLaw next ∧ OfflineLaw next
    ∧ (State.reset.port .p0).session = .offline ∧ State.reset.workListDone .p0 = true :=
  ⟨next_steps, next_lawful.held, next_lawful.detach, next_lawful.offline, by decide +kernel⟩

theorem witness_LawfulStepNeverStops : Lawful next := next_lawful

end Tests
end Sys2Proof
end

section
/-! PROOFS. The books of the hub: what the cell pool and the credit unit keep (chapter 2), the few events that change
them, and the laws of R14, R23, R26 and R30 that every step keeps. -/

namespace Sys2Proof
namespace Books

open Sys2Proof.Machine Sys2Proof.Safety

/-! ## The account of one port -/

/-- What the credit unit reads and keeps of one port: the configuration record, RU and BR (R25, R148). -/
structure Account where
  config : PortConfig
  reservedUse : PerLane Nat
  borrowed : Nat

/-- The account of a port. -/
def accountOf (x : PortState) : Account :=
  { config := x.config, reservedUse := x.reservedUse, borrowed := x.borrowed }

theorem accountOf_eq_iff {x y : PortState} :
    accountOf y = accountOf x
      ↔ y.config = x.config ∧ y.reservedUse = x.reservedUse ∧ y.borrowed = x.borrowed := by
  simp [accountOf]

theorem accountOf_resolveMarker (x : PortState) : accountOf x.resolveMarker = accountOf x := by
  rw [PortState.resolveMarker_eq]
  rfl

theorem accountOf_applyField (x : PortState) (f : ConfigField) (v : Nat) :
    accountOf (x.applyField f v) = { accountOf x with config := x.config.setField f v } := by
  cases f <;> rfl

/-! ## The messages of the table -/

/-- A message apart from its fault mark, which READ alone sets (R36) and no law of the credit unit looks at. -/
def unmarked (m : Message) : Message := { m with fault := false }

theorem messages_congr {s t : State} (h : t.table = s.table) : messages t = messages s := by
  simp only [messages, h]

/-- Replacing one element of a list exchanges what a partial function finds in it. -/
theorem perm_filterMap_set {α β : Type} (f : α → Option β) (l : List α) (i : Nat) (hi : i < l.length) (b : α) :
    ((f l[i]).toList ++ (l.set i b).filterMap f).Perm ((f b).toList ++ l.filterMap f) := by
  induction l generalizing i with
  | nil => cases hi
  | cons a rest ih =>
    have split_cons : ∀ (x : α) (xs : List α), (x :: xs).filterMap f = (f x).toList ++ xs.filterMap f := by
      intro x xs
      cases h : f x <;> simp [h]
    cases i with
    | zero =>
      simp only [List.set_cons_zero, List.getElem_cons_zero, split_cons]
      exact List.perm_append_comm_assoc _ _ _
    | succ j =>
      have hj : j < rest.length := Nat.lt_of_succ_lt_succ hi
      simp only [List.set_cons_succ, List.getElem_cons_succ, split_cons]
      calc (f rest[j]).toList ++ ((f a).toList ++ (rest.set j b).filterMap f)
        _ |>.Perm ((f a).toList ++ ((f rest[j]).toList ++ (rest.set j b).filterMap f)) :=
            List.perm_append_comm_assoc _ _ _
        _ |>.Perm ((f a).toList ++ ((f b).toList ++ rest.filterMap f)) := (ih j hj).append_left _
        _ |>.Perm ((f b).toList ++ ((f a).toList ++ rest.filterMap f)) := List.perm_append_comm_assoc _ _ _

/-- Replacing one descriptor exchanges its message. -/
theorem messages_setDesc (s : State) (i : DescIndex) (d : Descriptor) :
    ((s.desc i).state.message?.toList ++ messages (s.setDesc i d)).Perm (d.state.message?.toList ++ messages s) := by
  have h := perm_filterMap_set (fun d : Descriptor => d.state.message?) s.table.toList i.val (by simp) d
  simpa [messages, State.setDesc, State.desc, Vector.toList_set] using h

/-- A FREE descriptor that is given a message adds it to the table. -/
theorem messages_setDesc_of_free {s : State} {i : DescIndex} {d : Descriptor} {m : Message}
    (hi : (s.desc i).state.message? = none) (hd : d.state.message? = some m) :
    (messages (s.setDesc i d)).Perm (m :: messages s) := by
  simpa [hi, hd] using messages_setDesc s i d

/-- Freeing a descriptor takes its message from the table. -/
theorem messages_freeDesc {s : State} {i : DescIndex} {m : Message} (hi : (s.desc i).state.message? = some m) :
    (messages s).Perm (m :: messages (s.freeDesc i)) := by
  have h := messages_setDesc s i { generation := (s.desc i).generation + 1, state := .free }
  rw [hi] at h
  exact h.symm

/-- A descriptor whose message changes in the fault mark at most leaves the messages as they are, but for that mark. -/
theorem messages_setDesc_unmarked {s : State} {i : DescIndex} {d : Descriptor} {m n : Message}
    (hi : (s.desc i).state.message? = some m) (hd : d.state.message? = some n) (hn : unmarked n = unmarked m) :
    ((messages (s.setDesc i d)).map unmarked).Perm ((messages s).map unmarked) := by
  have h := (messages_setDesc s i d).map unmarked
  simpa [hi, hd, hn] using h

theorem messages_eq_nil {s : State} (h : ∀ d ∈ s.table.toList, d.state = .free) : messages s = [] := by
  simp only [messages, List.filterMap_eq_nil_iff]
  intro d hd
  rw [h d hd]
  rfl

/-- A port's outstanding count counts the messages that it sourced (R13). -/
theorem outstanding_eq_count (s : State) (p : Port) : s.outstanding p = ((messages s).map Message.source).count p := by
  simp only [State.outstanding, messages, List.count, List.countP_map, List.countP_filterMap]
  refine List.countP_congr fun d _ => ?_
  cases h : d.state.message? <;> simp [Descriptor.sourcedBy, h]

/-! ## States with the same books -/

/-- The books of two states agree: each port's account, the free list, and the messages but for their fault marks. -/
structure SameBooks (s t : State) : Prop where
  account : ∀ p : Port, accountOf (t.port p) = accountOf (s.port p)
  freeList : t.freeList = s.freeList
  content : ((messages t).map unmarked).Perm ((messages s).map unmarked)

namespace SameBooks

theorem refl (s : State) : SameBooks s s := ⟨fun _ => rfl, rfl, .refl _⟩

theorem trans {s t u : State} (h : SameBooks s t) (k : SameBooks t u) : SameBooks s u :=
  ⟨fun p => (k.account p).trans (h.account p), k.freeList.trans h.freeList, k.content.trans h.content⟩

/-- A change that leaves the accounts, the table and the free list leaves the books. -/
theorem of_table {s t : State} (ha : ∀ p, accountOf (t.port p) = accountOf (s.port p)) (ht : t.table = s.table)
    (hf : t.freeList = s.freeList) : SameBooks s t := ⟨ha, hf, by rw [messages_congr ht]⟩

theorem modifyPort (s : State) (p : Port) {f : PortState → PortState} (h : ∀ x, accountOf (f x) = accountOf x) :
    SameBooks s (s.modifyPort p f) := by
  refine of_table (fun q => ?_) rfl rfl
  rw [State.port_modifyPort]
  split
  · next hq => rw [h, hq]
  · rfl

theorem mapPorts (s : State) {f : Port → PortState → PortState} (h : ∀ q x, accountOf (f q x) = accountOf x) :
    SameBooks s (s.mapPorts f) := of_table (fun q => by rw [State.port_mapPorts, h]) rfl rfl

theorem raiseOn (s : State) (p : Port) (f : LatchedFlag) : SameBooks s (s.raiseOn p f) := modifyPort s p fun _ => rfl

theorem raiseWhere (s : State) (on : Port → Bool) (f : LatchedFlag) : SameBooks s (s.raiseWhere on f) :=
  mapPorts s fun q x => by split <;> rfl

theorem answer (s : State) (p : Port) (r : Result) (b : List Byte) : SameBooks s (s.answer p r b) :=
  modifyPort s p fun _ => rfl

theorem countMeters (s : State) (p : Port) (f : Meters → Meters) : SameBooks s (s.countMeters p f) :=
  modifyPort s p fun _ => rfl

theorem emptySlot (s : State) (p : Port) : SameBooks s (s.emptySlot p) := modifyPort s p fun _ => rfl

theorem spendTokens (s : State) (p : Port) (k : Nat) : SameBooks s (s.spendTokens p k) :=
  modifyPort s p fun x => by split <;> rfl

theorem modifyQueue (s : State) (p : Port) (l : Lane) (f : InboundQueue → InboundQueue) :
    SameBooks s (s.modifyQueue p l f) := modifyPort s p fun _ => rfl

theorem offer (s : State) (p : Port) (n : Notice) : SameBooks s (s.offer p n) := by
  unfold State.offer
  split
  · split
    · exact modifyPort s p fun _ => rfl
    · exact raiseOn s p _
  · exact refl s

theorem renewLease (s : State) (p : Port) : SameBooks s (s.renewLease p) := by
  rw [State.renewLease_eq]
  exact of_table (fun _ => rfl) rfl rfl

theorem dropClaim (s : State) : SameBooks s s.dropClaim := of_table (fun _ => rfl) rfl rfl

theorem dropClaimOf (s : State) (p : Port) : SameBooks s (s.dropClaimOf p) := by
  unfold State.dropClaimOf
  split
  · exact dropClaim s
  · exact refl s

theorem dropHead (s : State) (p : Port) (l : Lane) : SameBooks s (s.dropHead p l) := by
  unfold State.dropHead
  dsimp only
  split
  · exact (modifyQueue s p l _).trans (raiseWhere _ _ _)
  · exact modifyQueue s p l _

theorem addWaiters (s : State) (q : Port) (l : Lane) (full : List Port) : SameBooks s (s.addWaiters q l full) :=
  mapPorts s fun p x => by split <;> rfl

theorem appendEntries (s : State) (e : Entry) (l : Lane) (accepting : List Port) :
    SameBooks s (s.appendEntries e l accepting) := mapPorts s fun p x => by split <;> rfl

theorem leaveWaiterSets (s : State) (p : Port) : SameBooks s (s.leaveWaiterSets p) := mapPorts s fun _ _ => rfl

theorem beginDetach (s : State) (target issuer : Port) : SameBooks s (s.beginDetach target issuer) :=
  (modifyPort s target fun _ => by rfl).trans (modifyPort _ issuer fun _ => by rfl)

/-- A descriptor that changes its state but not its message leaves the books. -/
theorem setDesc {s : State} {i : DescIndex} {d : Descriptor} {m n : Message}
    (hi : (s.desc i).state.message? = some m) (hd : d.state.message? = some n) (hn : unmarked n = unmarked m) :
    SameBooks s (s.setDesc i d) := ⟨fun _ => rfl, rfl, messages_setDesc_unmarked hi hd hn⟩

/-- Freeing the same message in two states with the same books. -/
theorem freeDesc {s t : State} {i : DescIndex} (ha : ∀ p, accountOf (t.port p) = accountOf (s.port p))
    (ht : t.table = s.table) (hf : t.freeList = s.freeList) : SameBooks (s.freeDesc i) (t.freeDesc i) := by
  refine of_table ha ?_ hf
  simp only [State.freeDesc, State.setDesc, State.desc, ht]

theorem deliverFail (s : State) (m : Message) (j : Judgement) : SameBooks s (s.deliverFail m j) :=
  (addWaiters s _ _ _).trans (countMeters _ _ _)

/-- A successful delivery step of the message that descriptor `i` holds changes no books (R60). -/
theorem deliverOk {s : State} {i : DescIndex} {m : Message} (hi : (s.desc i).state.message? = some m) (j : Judgement) :
    SameBooks s (s.deliverOk i m j) := by
  have entered := appendEntries s { handle := s.handleAt i, arrival := s.tick } m.lane j.accepting
  have live := setDesc (s := s.appendEntries { handle := s.handleAt i, arrival := s.tick } m.lane j.accepting)
    (d := { generation := (s.desc i).generation, state := .live m (j.delivery (s.port m.source).sequence) }) hi rfl rfl
  refine entered.trans (live.trans ((addWaiters _ m.source m.lane j.full).trans ?_))
  unfold State.deliverOk
  exact modifyPort _ m.source fun _ => by rfl

/-! ## Frames -/

theorem endPeriod (s : State) (p : Port) : SameBooks s (s.endPeriod p) := modifyPort s p fun _ => rfl

/-- A frame changes no books that its effect does not change. -/
theorem frame (s : State) (p : Port) (miso : Byte → List Byte) {act : State → State} (h : ∀ t, SameBooks t (act t)) :
    SameBooks s (s.frame p miso act) := by
  unfold State.frame
  split
  · exact endPeriod s p
  · exact (modifyPort s p fun _ => by rfl).trans (h _)
  · exact (modifyPort s p fun _ => by rfl).trans (h _)

theorem decideFrame (s : State) (p : Port) (f : CommandFrame) (good : Bool) : SameBooks s (s.decideFrame p f good) := by
  unfold State.decideFrame
  split
  · split
    · exact modifyPort s p fun _ => rfl
    · exact (answer s p _ _).trans (raiseOn _ _ _)
  · exact raiseOn s p _

theorem commandFrame (s : State) (p : Port) (bytes : List Byte) : SameBooks s (s.commandFrame p bytes) := by
  unfold State.commandFrame
  split
  · exact frame s p _ fun t => decideFrame t p _ _
  · exact refl s

theorem brokenFrame (s : State) (p : Port) (n : Nat) : SameBooks s (s.brokenFrame p n) :=
  frame s p _ fun t => raiseOn t p _

theorem fetchFrame (s : State) (p : Port) (clocked : Nat) : SameBooks s (s.fetchFrame p clocked) := by
  unfold State.fetchFrame
  split
  · exact refl s
  · exact frame s p _ fun t => modifyPort t p fun _ => rfl

theorem writeRegister (s : State) (p : Port) (r : WritableRegister) (v : Word) : SameBooks s (s.writeRegister p r v) :=
  modifyPort s p fun x => by cases r <;> rfl

theorem registerFrame (s : State) (p : Port) (r : WritableRegister) (v : Word) : SameBooks s (s.registerFrame p r v) :=
  frame s p _ fun t => writeRegister t p r v

theorem regReadFrame (s : State) (p : Port) (rest : List Byte) : SameBooks s (s.regReadFrame p rest) := by
  cases rest with
  | nil => exact brokenFrame s p 1
  | cons address more => exact frame s p _ refl

theorem regWriteFrame (s : State) (p : Port) (bytes : List Byte) : SameBooks s (s.regWriteFrame p bytes) := by
  unfold State.regWriteFrame
  split
  · split
    · exact refl s
    · split
      · exact brokenFrame s p _
      · split
        · exact frame s p _ fun t => writeRegister t p _ _
        · exact brokenFrame s p _
  · split
    · exact refl s
    · exact brokenFrame s p _
  · exact refl s

theorem regFrame (s : State) (p : Port) (bytes : List Byte) : SameBooks s (s.regFrame p bytes) := by
  cases bytes with
  | nil => exact refl s
  | cons kind rest =>
    change SameBooks s (if kind = 0x81#8 then s.regReadFrame p rest else s.regWriteFrame p (kind :: rest))
    split
    · exact regReadFrame s p rest
    · exact regWriteFrame s p _

end SameBooks

/-! ## The events that change the books -/

/-- The books as a reset leaves them: no message, every cell on the free list in order, no charge (R145, R147). -/
structure Cleared (t : State) : Prop where
  messages : messages t = []
  freeList : t.freeList = allCells
  reservedUse : ∀ p : Port, (t.port p).reservedUse = { urgent := 0, routine := 0 }
  borrowed : ∀ p : Port, (t.port p).borrowed = 0

/-- One change of the books. Each event of the hub is a run of these: OPEN of a message, the return of a message's charge
and cells with the freeing of its descriptor, CONFIGURE, a reset, or a change that leaves the books alone. -/
inductive BookStep : State → State → Prop
  | same {s t : State} (h : SameBooks s t) : BookStep s t
  | opened {s : State} {p : Port} {a : OpenArgs} {i : DescIndex} {c : Charge}
      (hlength : 1 ≤ a.length ∧ a.length ≤ 256)
      (hdest : ValidDestinations p a.destinations)
      (hroom : s.outstanding p < (s.port p).config.outstandingCap) (hfree : (s.desc i).state = .free)
      (hgrant : s.grant p a.lane (cellsFor a.length) = some c) (hcells : cellsFor a.length ≤ s.freeList.length) :
      BookStep s (s.allocate p a i c)
  | freed {s : State} {i : DescIndex} {m : Message} (hi : (s.desc i).state.message? = some m) :
      BookStep s ((s.refund m).freeDesc i)
  | configured {s : State} {issuer q : Port} {f : ConfigField} {v : Nat} (hrange : f.inRange v = true)
      (huse : s.inUse q f v = false) : BookStep s (s.configureTaken issuer q f v)
  | cleared {s t : State} (h : Cleared t)
      (hc : (∀ p, (t.port p).config = (s.port p).config) ∨ ∀ p, (t.port p).config = PortConfig.default) : BookStep s t

/-- A run of changes of the books. -/
abbrev BookRun : State → State → Prop := Relation.ReflTransGen BookStep

theorem SameBooks.run {s t : State} (h : SameBooks s t) : BookRun s t := .single (.same h)

/-- A law that every change of the books keeps is kept by a run of them. -/
theorem BookRun.keeps {Law : State → Prop} (h : ∀ {s t : State}, BookStep s t → Law s → Law t) {s t : State}
    (hr : BookRun s t) (hs : Law s) : Law t := by
  induction hr with
  | refl => exact hs
  | tail _ hstep ih => exact h hstep ih

/-- What an event answers, if it answers a next state, is reached by a run of changes of the books. -/
def Booked (s : State) (o : StepOutcome) : Prop := ∀ t, o = .next t → BookRun s t

theorem Booked.next {s t : State} (h : BookRun s t) : Booked s (.next t) := by
  rintro _ ⟨⟩
  exact h

theorem Booked.same {s t : State} (h : SameBooks s t) : Booked s (.next t) := .next h.run

theorem Booked.unchanged (s : State) : Booked s (.next s) := .same (.refl s)

theorem Booked.answered (s : State) (p : Port) (r : Result) (b : List Byte) : Booked s (.next (s.answer p r b)) :=
  .same (.answer s p r b)

theorem Booked.refused (s : State) (p : Port) (r : Result) : Booked s (refuse p r s) := .answered s p r []

theorem Booked.fault (s : State) (f : Fault) : Booked s (.fault f) := by
  intro t h
  cases h

theorem Booked.after {s t : State} {o : StepOutcome} (h : BookRun s t) (ho : Booked t o) : Booked s o :=
  fun u hu => h.trans (ho u hu)

/-- A command row is a frame that leaves the books alone, and the taking of its command (R175, R178). -/
theorem Booked.issue {p : Port} {code : Byte} {args : List Byte} {body : List Byte → State → StepOutcome} (s : State)
    (h : ∀ as t, Booked t (body as t)) : Booked s (issue p code args body s) := by
  have arrived := SameBooks.commandFrame s p (frameBytes code args)
  rcases issue_cases p code args body s with e | e | ⟨t, ht, -, e⟩
  · rw [e]
    exact .unchanged s
  · rw [e]
    exact .same arrived
  · have hst : BookRun s t := by
      rcases ht with rfl | rfl
      · exact .refl
      · exact arrived.run
    rw [e]
    unfold takeCommand
    split
    · exact .after (hst.trans (SameBooks.renewLease t p).run) (h _ _)
    · exact .after hst (.refused t p _)

/-! ## Messages leave the table -/

/-- A message leaves the table: its charge and its cells return (R29), its descriptor is freed (R11), and what else the
event does leaves the books alone. -/
theorem run_freed {s t : State} {i : DescIndex} {m : Message} (hi : (s.desc i).state.message? = some m)
    (h : SameBooks ((s.refund m).freeDesc i) t) : BookRun s t := .tail (.single (.freed hi)) (.same h)

/-- An abandoned message leaves the table (R51, R136); any other descriptor stays. -/
theorem run_abandonMessage (s : State) (i : DescIndex) : BookRun s (s.abandonMessage i) := by
  unfold State.abandonMessage
  split
  · next m h => exact run_freed (m := m) (by rw [h]; rfl) (.refl _)
  · next m h => exact run_freed (m := m) (by rw [h]; rfl) (.emptySlot _ _)
  · exact .refl

/-- A retiring message leaves the table (R93). -/
theorem run_retire {s : State} {i : DescIndex} {m : Message} (d : Delivery) (hi : (s.desc i).state.message? = some m) :
    BookRun s (s.retire i m d) := by
  have offered := SameBooks.offer (s.refund m) m.source (returnedNotice (s.handleAt i) m d)
  exact run_freed hi (.freeDesc offered.account (State.offer_table _ _ _) offered.freeList)

/-- A reader that finishes leaves the message LIVE or, as the last, retires it (R79, R93). -/
theorem run_finishReader {s : State} {i : DescIndex} {m : Message} {d : Delivery} (hi : (s.desc i).state = .live m d)
    (p : Port) (o : ReaderOutcome) : BookRun s (s.finishReader i m d p o) := by
  have hm : (s.desc i).state.message? = some m := by rw [hi]; rfl
  unfold State.finishReader
  dsimp only
  split
  · exact run_retire _ hm
  · exact (SameBooks.setDesc (n := m) hm rfl rfl).run

theorem dropHead_desc (s : State) (p : Port) (l : Lane) (i : DescIndex) : (s.dropHead p l).desc i = s.desc i := by
  unfold State.dropHead
  dsimp only
  split <;> rfl

/-- A removal of the head entry of a queue (R79). -/
theorem run_removeHead {s : State} {p : Port} {l : Lane} {hd : Head} (h : s.head p l = some (some hd)) (o : ReaderOutcome) :
    BookRun s (s.removeHead p l hd o) := by
  obtain ⟨-, hlive⟩ := State.head_eq_some h
  obtain ⟨hstate, -⟩ := State.liveEntry_eq_some.mp hlive
  refine (SameBooks.dropHead s p l).run.trans (run_finishReader ?_ p o)
  rwa [dropHead_desc]

/-! ## What each row does to the books -/

/-! ### Sessions -/

theorem booked_attach (p : Port) (args : List Byte) (s : State) : Booked s (execAttach p args s) := by
  refine .issue s fun as t => ?_
  unfold attachBody
  split
  · exact .refused t p _
  · exact .refused t p _
  · exact .same ((SameBooks.modifyPort t p fun _ => by rfl).trans
      ((SameBooks.raiseWhere _ _ _).trans (.answer _ _ _ _)))

theorem booked_detach (p : Port) (args : List Byte) (s : State) : Booked s (execDetach p args s) := by
  refine .issue s fun as t => ?_
  unfold detachBody
  split
  · exact .refused t p _
  · exact .same ((SameBooks.dropClaimOf t p).trans (.beginDetach _ p p))

theorem booked_forceDetach (p : Port) (args : List Byte) (s : State) : Booked s (execForceDetach p args s) := by
  refine .issue s fun as t => ?_
  unfold forceDetachBody
  split
  · split
    · exact .refused t p _
    · split
      · exact .refused t p _
      · split
        · exact .refused t p _
        · split
          · exact .refused t p _
          · exact .same (.beginDetach t _ p)
  · exact .refused t p _

theorem booked_detachAbandonment (p : Port) (i : DescIndex) (s : State) : Booked s (execDetachAbandonment p i s) := by
  unfold execDetachAbandonment
  split
  · split
    · split
      · exact .next (run_abandonMessage s i)
      · exact .unchanged s
    · exact .unchanged s
  · exact .unchanged s

theorem booked_flush (p : Port) (l : Lane) (s : State) : Booked s (execFlush p l s) := by
  unfold execFlush
  split
  · split
    · exact .fault s _
    · exact .unchanged s
    · next hd h => exact .next (run_removeHead h .discarded)
  · exact .unchanged s

theorem booked_noticeQueueEmptying (p : Port) (s : State) : Booked s (execNoticeQueueEmptying p s) := by
  unfold execNoticeQueueEmptying
  split
  · exact .same (.modifyPort s p fun _ => rfl)
  · exact .unchanged s

theorem booked_waiterRemoval (p : Port) (s : State) : Booked s (execWaiterRemoval p s) := by
  unfold execWaiterRemoval
  split
  · exact .same ((SameBooks.leaveWaiterSets s p).trans (.modifyPort _ p fun _ => by rfl))
  · exact .unchanged s

theorem booked_detachCompletion (p : Port) (s : State) : Booked s (execDetachCompletion p s) := by
  unfold execDetachCompletion
  split
  · next issuer _ =>
    split
    · have offline : SameBooks s ((s.modifyPort p fun x => { x with session := .offline }).announcePeerChange p) :=
        (SameBooks.modifyPort s p fun _ => by rfl).trans (.raiseWhere _ _ _)
      dsimp only
      split
      · exact .same (offline.trans (.answer _ _ _ _))
      · exact .same (offline.trans ((SameBooks.raiseOn _ p _).trans (.answer _ _ _ _)))
    · exact .unchanged s
  · exact .unchanged s

/-! ### Composing -/

/-- The arguments that OPEN accepts (R39). -/
theorem openArgs_eq_some {p : Port} {lane l1 l0 dest mode t1 t0 : Byte} {a : OpenArgs}
    (h : openArgs p lane l1 l0 dest mode t1 t0 = some a) :
    (1 ≤ a.length ∧ a.length ≤ 256) ∧ ValidDestinations p a.destinations := by
  unfold openArgs at h
  split at h
  · next l ds m _ hds _ =>
    dsimp only at h
    split at h
    · next hc =>
      obtain ⟨h1, h2, h3, h4⟩ := hc
      cases h
      refine ⟨⟨h1, h2⟩, h3, h4, ?_⟩
      unfold Machine.setOf at hds
      split at hds
      · cases hds
        refine List.filter_congr fun q hq => ?_
        simp [hq]
      · cases hds
    · cases h
  · cases h

theorem booked_openMessage (p : Port) (args : List Byte) (s : State) : Booked s (execOpenMessage p args s) := by
  refine .issue s fun as t => ?_
  unfold openBody
  split
  · split
    · exact .refused t p _
    · split
      · exact .refused t p _
      · next a ha =>
        split
        · exact .refused t p _
        · next hroom =>
          split
          · exact .refused t p _
          · next i hi =>
            split
            · exact .same ((SameBooks.modifyPort t p fun _ => by rfl).trans (.answer _ _ _ _))
            · next c hc =>
              split
              · exact .fault t _
              · next hcells =>
                obtain ⟨hlength, hdest⟩ := openArgs_eq_some ha
                have opened : BookStep t (t.allocate p a i c) :=
                  .opened hlength hdest (by omega) (State.lowestFree_eq_some hi).1 hc (by omega)
                exact .next (.tail (.single opened) (.same (.answer _ _ _ _)))
  · exact .refused t p _

theorem booked_write (p : Port) (args : List Byte) (s : State) : Booked s (execWrite p args s) := by
  refine .issue s fun as t => ?_
  unfold writeBody
  split
  · split
    · exact .refused t p _
    · split
      · exact .refused t p _
      · split
        · exact .refused t p _
        · split
          · exact .refused t p _
          · split
            · exact .fault t _
            · exact .same ((SameBooks.of_table (fun _ => by rfl) (by rfl) (by rfl)).trans (.answer _ _ _ _))
        · exact .refused t p _
  · exact .refused t p _

theorem booked_abandon (p : Port) (args : List Byte) (s : State) : Booked s (execAbandon p args s) := by
  refine .issue s fun as t => ?_
  unfold abandonBody
  split
  · split
    · exact .refused t p _
    · split
      · exact .refused t p _
      · exact .refused t p _
      · exact .next ((run_abandonMessage t _).tail (.same (.answer _ _ _ _)))
  · exact .refused t p _

/-! ### Posting -/

/-- A delivery step of the message that descriptor `i` holds changes no books, whatever its result (R60, R63). -/
theorem booked_postNow {s : State} {p : Port} {i : DescIndex} {m : Message} (hi : (s.desc i).state.message? = some m) :
    Booked s (postNow p i m s) := by
  unfold postNow
  dsimp only
  split
  · exact .same ((SameBooks.deliverOk hi _).trans ((SameBooks.spendTokens _ p _).trans (.answer _ _ _ _)))
  · exact .same ((SameBooks.deliverFail s m _).trans (.answer _ _ _ _))

theorem booked_postDecision {s : State} {p : Port} {i : DescIndex} {m : Message}
    (hi : (s.desc i).state.message? = some m) : Booked s (postDecision p i m s) := by
  unfold postDecision
  split
  · exact booked_postNow hi
  · split
    · have held := SameBooks.setDesc (d := { generation := (s.desc i).generation, state := .held m }) hi rfl rfl
      exact .same (held.trans ((SameBooks.modifyPort _ p fun _ => by rfl).trans (.answer _ _ _ _)))
    · exact .refused s p _

theorem booked_post (p : Port) (args : List Byte) (s : State) : Booked s (execPost p args s) := by
  refine .issue s fun as t => ?_
  unfold postBody
  split
  · split
    · exact .refused t p _
    · split
      · exact .refused t p _
      · next m h =>
        obtain ⟨hstate, -⟩ := State.sourceSide_eq_ok.mp h
        exact booked_postDecision (by rw [hstate]; rfl)
      · exact .refused t p _
  · exact .refused t p _

theorem booked_refill (p : Port) (s : State) : Booked s (execRefill p s) := by
  unfold execRefill
  split
  · exact .same (.modifyPort s p fun _ => rfl)
  · exact .unchanged s

/-- The HELD message that a handle names is the one of its descriptor (R70). -/
theorem desc_of_heldMessage {s : State} {h : Handle} {m : Message} (hm : s.heldMessage h = some m) :
    (s.desc (handleIndex h)).state.message? = some m := by
  unfold State.heldMessage at hm
  dsimp only at hm
  split at hm
  · next hstate =>
    split at hm
    · cases hm
      rw [hstate]
      rfl
    · cases hm
  · cases hm

/-- The delivery step of a taken release changes no books (R73, R74). -/
theorem SameBooks.runRelease {s : State} {p : Port} {h : Handle} {m : Message}
    (hi : (s.desc (handleIndex h)).state.message? = some m) : SameBooks s (s.runRelease p h m) := by
  unfold State.runRelease
  dsimp only
  split
  · exact (deliverOk hi _).trans ((spendTokens _ p _).trans ((emptySlot _ p).trans (offer _ p _)))
  · have reopened := setDesc
      (d := { generation := (s.desc (handleIndex h)).generation, state := .opened m }) hi rfl rfl
    exact reopened.trans ((deliverFail _ m _).trans ((emptySlot _ p).trans (offer _ p _)))

theorem booked_releaseOfHeldPost (p : Port) (s : State) : Booked s (execReleaseOfHeldPost p s) := by
  unfold execReleaseOfHeldPost
  split
  · exact .unchanged s
  · split
    · exact .unchanged s
    · split
      · exact .fault s _
      · next m hm =>
        split
        · exact .same (.runRelease (desc_of_heldMessage hm))
        · exact .same (.modifyPort s p fun _ => rfl)

/-! ### Consuming -/

theorem booked_peek (p : Port) (args : List Byte) (s : State) : Booked s (execPeek p args s) := by
  refine .issue s fun as t => ?_
  unfold peekBody
  split
  · split
    · exact .refused t p _
    · split
      · exact .refused t p _
      · split
        · exact .fault t _
        · exact .refused t p _
        · exact .answered t p _ _
  · exact .refused t p _

/-- A READ changes words of the pool and perhaps the fault mark of its message (R17, R36). -/
theorem booked_readTaken {s : State} {p : Port} {l : Lane} {hd : Head} (h : s.head p l = some (some hd))
    (offset count : Nat) (addresses : List Nat) : Booked s (readTaken p hd offset count addresses s) := by
  obtain ⟨-, hlive⟩ := State.head_eq_some h
  obtain ⟨hstate, -⟩ := State.liveEntry_eq_some.mp hlive
  have hm : (s.desc (handleIndex hd.entry.handle)).state.message? = some hd.message := by rw [hstate]; rfl
  have pool : SameBooks s { s with pool := (readWords addresses s.pool).pool } := .of_table (fun _ => rfl) rfl rfl
  unfold readTaken
  dsimp only
  split
  · have marked : SameBooks { s with pool := (readWords addresses s.pool).pool }
        (State.setFault _ (handleIndex hd.entry.handle) hd.message hd.delivery) :=
      SameBooks.setDesc (n := { hd.message with fault := true }) hm rfl rfl
    exact .same (pool.trans (marked.trans (.answer _ _ _ _)))
  · exact .same (pool.trans (.answer _ _ _ _))

theorem booked_read (p : Port) (args : List Byte) (s : State) : Booked s (execRead p args s) := by
  refine .issue s fun as t => ?_
  unfold readBody
  split
  · split
    · exact .refused t p _
    · split
      · exact .refused t p _
      · split
        · exact .refused t p _
        · split
          · exact .refused t p _
          · split
            · next hd h =>
              split
              · exact .refused t p _
              · split
                · exact .fault t _
                · exact booked_readTaken h _ _ _
            · exact .fault t _
  · exact .refused t p _

theorem booked_done (p : Port) (args : List Byte) (s : State) : Booked s (execDone p args s) := by
  refine .issue s fun as t => ?_
  unfold doneBody
  split
  · split
    · exact .refused t p _
    · split
      · exact .refused t p _
      · split
        · next hd h =>
          exact .next ((run_removeHead h .consumed).trans ((SameBooks.countMeters _ p _).trans (.answer _ _ _ _)).run)
        · exact .fault t _
  · exact .refused t p _

theorem run_expire {s : State} {p : Port} {l : Lane} {hd : Head} (h : s.head p l = some (some hd)) :
    BookRun s (s.expire p l hd) :=
  (run_removeHead h .expired).trans ((SameBooks.offer _ p _).trans (.countMeters _ p _)).run

theorem booked_examination (p : Port) (l : Lane) (s : State) : Booked s (execExamination p l s) := by
  have ended : Booked s (.next (s.endSeries p l)) := .same (.modifyQueue s p l _)
  unfold execExamination
  split
  · split
    · exact ended
    · split
      · exact .fault s _
      · exact ended
      · next hd h =>
        split
        · exact .next (run_expire h)
        · exact ended
  · exact .unchanged s

theorem booked_expiry (p : Port) (l : Lane) (s : State) : Booked s (execExpiry p l s) := by
  unfold execExpiry
  split
  · split
    · exact .fault s _
    · exact .unchanged s
    · next hd h =>
      split
      · exact .next (run_expire h)
      · exact .unchanged s
  · exact .unchanged s

/-! ### A port's own figures -/

theorem booked_notices (p : Port) (args : List Byte) (s : State) : Booked s (execNotices p args s) := by
  refine .issue s fun as t => ?_
  unfold noticesBody
  split
  · split
    · exact .refused t p _
    · split
      · exact .refused t p _
      · split
        · exact .refused t p _
        · exact .same ((SameBooks.modifyPort t p fun _ => by rfl).trans (.answer _ _ _ _))
  · exact .refused t p _

theorem booked_account (p : Port) (args : List Byte) (s : State) : Booked s (execAccount p args s) := by
  refine .issue s fun as t => ?_
  unfold accountBody
  split
  · exact .refused t p _
  · exact .answered t p _ _

theorem booked_meters (p : Port) (args : List Byte) (s : State) : Booked s (execMeters p args s) := by
  refine .issue s fun as t => ?_
  unfold metersBody
  split
  · split
    · exact .refused t p _
    · split
      · exact .refused t p _
      · dsimp only
        split
        · exact .same ((SameBooks.countMeters t p _).trans (.answer _ _ _ _))
        · exact .answered t p _ _
  · exact .refused t p _

theorem accountOf_sample (x : PortState) : accountOf x.sample = accountOf x := by
  unfold PortState.sample
  dsimp only
  split <;> rfl

theorem booked_samplingEvent (p : Port) (s : State) : Booked s (execSamplingEvent p s) := by
  unfold execSamplingEvent
  split
  · exact .unchanged s
  · exact .same (.modifyPort s p accountOf_sample)

/-! ### The claim and the configuration -/

theorem booked_claim (p : Port) (args : List Byte) (s : State) : Booked s (execClaim p args s) := by
  refine .issue s fun as t => ?_
  unfold claimBody
  split
  · exact .refused t p _
  · split
    · have granted : SameBooks t (t.grantClaim p) := .of_table (fun _ => rfl) rfl rfl
      exact .same (granted.trans (.answer _ _ _ _))
    · exact .refused t p _

theorem booked_release (p : Port) (args : List Byte) (s : State) : Booked s (execRelease p args s) := by
  refine .issue s fun as t => ?_
  unfold releaseBody
  split
  · exact .refused t p _
  · exact .same ((SameBooks.dropClaim t).trans (.answer _ _ _ _))

/-- The lease event of a mark changes the claim and a latched flag (R155). -/
theorem booked_lowerLease (s : State) : Booked s (.next ({ s with leaseDue := false } : State).lowerLease) := by
  have taken : SameBooks s { s with leaseDue := false } := .of_table (fun _ => rfl) rfl rfl
  unfold State.lowerLease
  split
  · exact .same taken
  · split
    · exact .same (taken.trans ((SameBooks.dropClaim _).trans (.raiseOn _ _ _)))
    · exact .same (taken.trans (.of_table (fun _ => rfl) rfl rfl))

theorem booked_leaseDecrement (s : State) : Booked s (execLeaseDecrement s) := by
  unfold execLeaseDecrement
  split
  · exact booked_lowerLease s
  · exact .unchanged s

theorem booked_claimExpiry (s : State) : Booked s (execClaimExpiry s) := by
  unfold execClaimExpiry
  split
  · exact booked_lowerLease s
  · exact .unchanged s

theorem booked_configure (p : Port) (args : List Byte) (s : State) : Booked s (execConfigure p args s) := by
  refine .issue s fun as t => ?_
  unfold configureBody
  split
  · split
    · exact .refused t p _
    · split
      · dsimp only
        split
        · next hrange =>
          split
          · exact .refused t p _
          · next huse =>
            split
            · exact .answered t p _ _
            · have configured := BookStep.configured (issuer := p) hrange (Bool.eq_false_of_not_eq_true huse)
              exact .next (.tail (.single configured) (.same (.answer _ _ _ _)))
        · exact .refused t p _
      · exact .refused t p _
  · exact .refused t p _

theorem booked_configRead (p : Port) (args : List Byte) (s : State) : Booked s (execConfigRead p args s) := by
  refine .issue s fun as t => ?_
  unfold configReadBody
  split
  · split
    · exact .refused t p _
    · split
      · exact .refused t p _
      · exact .answered t p _ _
  · exact .refused t p _

/-! ### Resets -/

/-- The hub after power-on reset (R147). -/
theorem cleared_reset : Cleared State.reset where
  messages := messages_eq_nil fun d hd => by
    have h : d = { generation := 0, state := .free } := by simpa [State.reset] using hd
    rw [h]
  freeList := by simp only [State.reset]
  reservedUse p := by cases p <;> rfl
  borrowed p := by cases p <;> rfl

/-- The hub after a hub reset (R145). -/
theorem cleared_hubReset (s : State) : Cleared s.hubReset where
  messages := messages_eq_nil fun d hd => by
    obtain ⟨e, -, rfl⟩ : ∃ e ∈ s.table, e.hubReset = d := by simpa [State.hubReset] using hd
    unfold Descriptor.hubReset
    split
    · assumption
    · rfl
  freeList := by simp only [State.hubReset]
  reservedUse p := by cases p <;> rfl
  borrowed p := by cases p <;> rfl

theorem booked_hubReset (p : Port) (args : List Byte) (s : State) : Booked s (execHubReset p args s) := by
  refine .issue s fun as t => ?_
  unfold hubResetBody
  split
  · exact .refused t p _
  · have cleared : BookStep t t.hubReset := .cleared (cleared_hubReset t) (.inl fun q => by cases q <;> rfl)
    exact .next (.tail (.single cleared) (.same (.answer _ _ _ _)))

theorem booked_powerOnReset (s : State) : Booked s (execPowerOnReset s) := by
  refine .next (.single (.cleared ⟨?_, ?_, fun p => ?_, fun p => ?_⟩ (.inr fun p => ?_)))
  · exact (messages_congr rfl).trans cleared_reset.messages
  · simp only [State.reset]
  all_goals cases p <;> rfl

/-! ### Time, storage and frames -/

theorem booked_millisecondMark (s : State) : Booked s (execMillisecondMark s) := by
  unfold execMillisecondMark
  split
  · exact .same (.of_table (fun p => by cases p <;> rfl) rfl rfl)
  · exact .unchanged s

theorem accountOf_countDown (x : PortState) : accountOf x.countDown = accountOf x := by
  unfold PortState.countDown
  split
  · rfl
  · split <;> rfl

theorem SameBooks.tickOnce (s : State) : SameBooks s s.tickOnce :=
  .of_table (fun p => by cases p <;> exact accountOf_countDown _) rfl rfl

theorem booked_storageUpset (c : CellIndex) (w : Fin 8) (wordBits : Word) (codeBits : BitVec 7) (s : State) :
    Booked s (execStorageUpset c w wordBits codeBits s) := .same (.of_table (fun _ => rfl) rfl rfl)

theorem booked_shortFrame (p : Port) (bytes : List Byte) (s : State) : Booked s (execShortFrame p bytes s) := by
  unfold execShortFrame
  split
  · exact .same (.endPeriod s p)
  · split
    · exact .same (.brokenFrame s p _)
    · exact .unchanged s

theorem booked_unknownCommandCode (p : Port) (code : Byte) (args : List Byte) (s : State) :
    Booked s (execUnknownCommandCode p code args s) := by
  unfold execUnknownCommandCode
  split
  · exact .issue s fun _ t => .refused t p _
  · exact .unchanged s

/-! ### Every row, and the passage of hub time -/

/-- Every row of the table changes the books by a run of the changes above. -/
theorem booked_exec (c : Instr) (s : State) : Booked s (exec c s) := by
  cases c with
  | attach p args => exact booked_attach p args s
  | detach p args => exact booked_detach p args s
  | forceDetach p args => exact booked_forceDetach p args s
  | openMessage p args => exact booked_openMessage p args s
  | write p args => exact booked_write p args s
  | abandon p args => exact booked_abandon p args s
  | post p args => exact booked_post p args s
  | peek p args => exact booked_peek p args s
  | read p args => exact booked_read p args s
  | done p args => exact booked_done p args s
  | notices p args => exact booked_notices p args s
  | account p args => exact booked_account p args s
  | meters p args => exact booked_meters p args s
  | claim p args => exact booked_claim p args s
  | release p args => exact booked_release p args s
  | configure p args => exact booked_configure p args s
  | configRead p args => exact booked_configRead p args s
  | hubReset p args => exact booked_hubReset p args s
  | commandFrame p bytes => exact .same (.commandFrame s p bytes)
  | shortFrame p bytes => exact booked_shortFrame p bytes s
  | fetch p clocked => exact .same (.fetchFrame s p clocked)
  | regReadFrameCut p => exact .same (.regReadFrame s p [])
  | regWrite p bytes => exact .same (.regFrame s p bytes)
  | eventFlags p value => exact .same (.registerFrame s p _ value)
  | eventEnable p value => exact .same (.registerFrame s p _ value)
  | deadlineWrite p lane value => exact .same (.registerFrame s p _ value)
  | meterThreshold p value => exact .same (.registerFrame s p _ value)
  | powerOnReset => exact booked_powerOnReset s
  | millisecondMark => exact booked_millisecondMark s
  | examination p lane => exact booked_examination p lane s
  | expiry p lane => exact booked_expiry p lane s
  | leaseDecrement => exact booked_leaseDecrement s
  | claimExpiry => exact booked_claimExpiry s
  | samplingEvent p => exact booked_samplingEvent p s
  | refill p => exact booked_refill p s
  | releaseOfHeldPost p => exact booked_releaseOfHeldPost p s
  | detachAbandonment p index => exact booked_detachAbandonment p index s
  | flush p lane => exact booked_flush p lane s
  | noticeQueueEmptying p => exact booked_noticeQueueEmptying p s
  | waiterRemoval p => exact booked_waiterRemoval p s
  | detachCompletion p => exact booked_detachCompletion p s
  | storageUpset cell word wordBits codeBits => exact booked_storageUpset cell word wordBits codeBits s
  | unknownCommandCode p code args => exact booked_unknownCommandCode p code args s
  | csNFall p => exact .same (.modifyPort s p fun _ => rfl)

theorem booked_idle (s : State) : Booked s (idle s) := by
  unfold idle
  split
  · exact booked_refill _ s
  · split
    · exact booked_millisecondMark s
    · split
      · exact booked_leaseDecrement s
      · split
        · exact booked_samplingEvent _ s
        · split
          · exact .same (.tickOnce s)
          · exact .unchanged s

/-- Every step changes the books by a run of the changes above. -/
theorem step_run {s t : State} (h : step s = .next t) : BookRun s t := by
  unfold step at h
  split at h
  · exact booked_idle s t h
  · next c rest _ =>
    have taken : SameBooks s { s with pending := rest } := .of_table (fun _ => rfl) rfl rfl
    exact taken.run.trans (booked_exec c _ t h)

/-- A law that every change of the books keeps is kept by every step. -/
theorem step_keeps {Law : State → Prop} (hlaw : ∀ {s t : State}, BookStep s t → Law s → Law t) {s t : State}
    (h : step s = .next t) (hs : Law s) : Law t := (step_run h).keeps hlaw hs

/-! ## What a message counts for -/

/-- The reserved cells that a message is charged to a port's lane. -/
def reservedOf (p : Port) (l : Lane) (m : Message) : Nat :=
  if m.source = p ∧ m.lane = l then m.reservedCharge else 0

/-- The shared cells that a message is charged to a port. -/
def sharedOf (p : Port) (m : Message) : Nat := if m.source = p then m.sharedCharge else 0

theorem reservedSum_eq (s : State) (p : Port) (l : Lane) :
    reservedSum s p l = ((messages s).map (reservedOf p l)).sum := rfl

theorem sharedSum_eq (s : State) (p : Port) : sharedSum s p = ((messages s).map (sharedOf p)).sum := rfl

/-- What MessageLaw says of one message (R2, R30, R39). -/
def WellComposed (m : Message) : Prop :=
  1 ≤ m.length ∧ m.length ≤ 256 ∧ m.chain.length = cellsFor m.length
    ∧ m.reservedCharge + m.sharedCharge = m.chain.length ∧ m.destinations ≠ [] ∧ m.source ∉ m.destinations
    ∧ m.destinations = Port.all.filter fun p => decide (p ∈ m.destinations)

theorem messageLaw_iff (s : State) : MessageLaw s ↔ ∀ m ∈ messages s, WellComposed m := Iff.rfl

/-- Over the four ports and two lanes a message counts for its whole charge. -/
theorem sumPorts_charge (m : Message) :
    sumPorts (fun p => reservedOf p .urgent m + reservedOf p .routine m + sharedOf p m)
      = m.reservedCharge + m.sharedCharge := by
  cases hp : m.source <;> cases hl : m.lane <;> simp [sumPorts, reservedOf, sharedOf, hp, hl]

theorem sumPorts_add (f g : Port → Nat) : sumPorts (fun p => f p + g p) = sumPorts f + sumPorts g := by
  simp only [sumPorts]
  omega

theorem sumPorts_le {f g : Port → Nat} (h : ∀ p, f p ≤ g p) : sumPorts f ≤ sumPorts g := by
  have h0 := h .p0
  have h1 := h .p1
  have h2 := h .p2
  have h3 := h .p3
  simp only [sumPorts]
  omega

/-- The sum over the ports of a figure that one port alone has. -/
theorem sumPorts_ite (p : Port) (n : Nat) : sumPorts (fun q => if p = q then n else 0) = n := by
  cases p <;> simp [sumPorts]

/-- The sum over the ports after one port's figure has changed. -/
theorem sumPorts_change {f g : Port → Nat} (p : Port) (h : ∀ q, q ≠ p → g q = f q) :
    sumPorts g + f p = sumPorts f + g p := by
  have h0 := h .p0
  have h1 := h .p1
  have h2 := h .p2
  have h3 := h .p3
  cases p <;> simp_all [sumPorts] <;> omega

namespace SameBooks

variable {s t : State}

/-- The messages of two states with the same books give the same values of anything but the fault mark. -/
theorem map_perm (h : SameBooks s t) {β : Type} (f : Message → β) (hf : ∀ m, f (unmarked m) = f m) :
    ((messages t).map f).Perm ((messages s).map f) := by
  have hcomp : f ∘ unmarked = f := funext hf
  simpa only [List.map_map, hcomp] using h.content.map f

theorem config (h : SameBooks s t) (p : Port) : (t.port p).config = (s.port p).config :=
  (accountOf_eq_iff.mp (h.account p)).1

theorem reservedUse (h : SameBooks s t) (p : Port) : (t.port p).reservedUse = (s.port p).reservedUse :=
  (accountOf_eq_iff.mp (h.account p)).2.1

theorem borrowed (h : SameBooks s t) (p : Port) : (t.port p).borrowed = (s.port p).borrowed :=
  (accountOf_eq_iff.mp (h.account p)).2.2

theorem totalAllotments (h : SameBooks s t) : t.totalAllotments = s.totalAllotments := by
  simp only [State.totalAllotments, h.config]

theorem totalBorrowed (h : SameBooks s t) : t.totalBorrowed = s.totalBorrowed := by
  simp only [State.totalBorrowed, h.borrowed]

theorem sharedCapacity (h : SameBooks s t) : t.sharedCapacity = s.sharedCapacity := by
  simp only [State.sharedCapacity, h.totalAllotments]

theorem outstanding (h : SameBooks s t) (p : Port) : t.outstanding p = s.outstanding p := by
  simp only [outstanding_eq_count, (h.map_perm Message.source fun _ => rfl).count_eq p]

theorem reservedSum_eq (h : SameBooks s t) (p : Port) (l : Lane) : reservedSum t p l = reservedSum s p l :=
  (h.map_perm (reservedOf p l) fun _ => rfl).sum_eq

theorem sharedSum_eq (h : SameBooks s t) (p : Port) : sharedSum t p = sharedSum s p :=
  (h.map_perm (sharedOf p) fun _ => rfl).sum_eq

theorem chains (h : SameBooks s t) :
    ((messages t).flatMap Message.chain).Perm ((messages s).flatMap Message.chain) := by
  simpa only [List.flatMap_def] using (h.map_perm Message.chain fun _ => rfl).flatten

end SameBooks

/-! ## OPEN, the return of a charge, and CONFIGURE on the books -/

/-- The message of a taken OPEN, with the first cells of the free list (R41, R21). -/
def allocated (s : State) (p : Port) (a : OpenArgs) (c : Charge) : Message :=
  openedMessage p (s.port p).epoch a (s.freeList.take (cellsFor a.length)) c

theorem messages_allocate {s : State} (p : Port) (a : OpenArgs) {i : DescIndex} (c : Charge)
    (hfree : (s.desc i).state = .free) : (messages (s.allocate p a i c)).Perm (allocated s p a c :: messages s) := by
  have hnone : (s.desc i).state.message? = none := by rw [hfree]; rfl
  exact messages_setDesc_of_free
    (d := { generation := (s.desc i).generation, state := .opened (allocated s p a c) }) hnone rfl

/-- An OPEN raises its port's charges by the message's own and leaves every record (R27). -/
theorem account_allocate (s : State) (p : Port) (a : OpenArgs) (i : DescIndex) (c : Charge) (q : Port) :
    ((s.allocate p a i c).port q).config = (s.port q).config
      ∧ (∀ l, ((s.allocate p a i c).port q).reservedUse.get l
          = (s.port q).reservedUse.get l + reservedOf q l (allocated s p a c))
      ∧ ((s.allocate p a i c).port q).borrowed = (s.port q).borrowed + sharedOf q (allocated s p a c) := by
  have hport : (s.allocate p a i c).port q = if q = p then (s.port p).charge a.lane c else s.port q :=
    State.port_modifyPort s p q fun x => x.charge a.lane c
  rw [hport]
  by_cases hq : q = p
  · subst hq
    refine ⟨by simp, fun l => ?_, by simp [PortState.charge, sharedOf, allocated, openedMessage]⟩
    by_cases hl : l = a.lane
    · simp [PortState.charge, reservedOf, allocated, openedMessage, hl]
    · simp [PortState.charge, PerLane.get_set, reservedOf, allocated, openedMessage, hl, Ne.symm hl]
  · simp [hq, Ne.symm hq, reservedOf, sharedOf, allocated, openedMessage]

theorem messages_refunded {s : State} {i : DescIndex} {m : Message} (hi : (s.desc i).state.message? = some m) :
    (messages s).Perm (m :: messages ((s.refund m).freeDesc i)) := messages_freeDesc (s := s.refund m) hi

/-- The return of a message's charge lowers its source's charges by the message's own and leaves every record
(R29). -/
theorem account_refunded (s : State) (i : DescIndex) (m : Message) (q : Port) :
    (((s.refund m).freeDesc i).port q).config = (s.port q).config
      ∧ (∀ l, (((s.refund m).freeDesc i).port q).reservedUse.get l = (s.port q).reservedUse.get l - reservedOf q l m)
      ∧ (((s.refund m).freeDesc i).port q).borrowed = (s.port q).borrowed - sharedOf q m := by
  have hmarker : accountOf (((s.refund m).freeDesc i).port q)
      = accountOf (if q = m.source then (s.port q).uncharge m.lane m.split else s.port q) := by
    rw [State.port_freeDesc, State.refund_port]
    dsimp only
    split
    · exact accountOf_resolveMarker _
    · rfl
  obtain ⟨hc, hr, hb⟩ := accountOf_eq_iff.mp hmarker
  rw [hc, hr, hb]
  by_cases hq : q = m.source
  · refine ⟨by simp [hq], fun l => ?_, by simp [PortState.uncharge, Message.split, sharedOf, hq]⟩
    by_cases hl : l = m.lane
    · simp [PortState.uncharge, Message.split, reservedOf, hq, hl]
    · simp [PortState.uncharge, PerLane.get_set, reservedOf, hq, hl, Ne.symm hl]
  · simp [hq, Ne.symm hq, reservedOf, sharedOf]

/-- CONFIGURE changes one field of its target's record and no charge (R161). -/
theorem account_configureTaken (s : State) (issuer q : Port) (f : ConfigField) (v : Nat) (p : Port) :
    ((s.configureTaken issuer q f v).port p).config
        = (if p = q then (s.port p).config.setField f v else (s.port p).config)
      ∧ ((s.configureTaken issuer q f v).port p).reservedUse = (s.port p).reservedUse
      ∧ ((s.configureTaken issuer q f v).port p).borrowed = (s.port p).borrowed := by
  have hmarker : SameBooks (s.modifyPort q fun x => x.applyField f v) (s.configureTaken issuer q f v) :=
    (SameBooks.mapPorts _ fun r x => by
      split
      · exact accountOf_resolveMarker x
      · rfl).trans (.raiseWhere _ _ _)
  rw [hmarker.config, hmarker.reservedUse, hmarker.borrowed, State.port_modifyPort]
  by_cases hp : p = q
  · subst hp
    have happly := accountOf_applyField (s.port p) f v
    simp only [if_true]
    exact ⟨congrArg Account.config happly, congrArg Account.reservedUse happly, congrArg Account.borrowed happly⟩
  · simp [hp]

theorem messages_configureTaken (s : State) (issuer q : Port) (f : ConfigField) (v : Nat) :
    messages (s.configureTaken issuer q f v) = messages s := messages_congr rfl

/-! ## Cells (R23) -/

theorem allCells_length : allCells.length = 512 := List.length_finRange

theorem cellLaw_of_cleared {s : State} (h : Cleared s) : CellLaw s := by
  rw [CellLaw, h.freeList, h.messages]
  exact .of_eq (List.append_nil _)

/-- Every change of the books keeps each cell on the free list or in one chain. -/
theorem cellLaw_step {s t : State} (h : BookStep s t) (hs : CellLaw s) : CellLaw t := by
  cases h with
  | same h =>
    rw [CellLaw, h.freeList]
    exact (h.chains.append_left _).trans hs
  | @opened p a i c hlength hdest hroom hfree hgrant hcells =>
    refine List.Perm.trans ?_ hs
    calc s.freeList.drop (cellsFor a.length) ++ (messages (s.allocate p a i c)).flatMap Message.chain
      _ |>.Perm (s.freeList.drop (cellsFor a.length)
            ++ (s.freeList.take (cellsFor a.length) ++ (messages s).flatMap Message.chain)) :=
          ((messages_allocate p a c hfree).flatMap fun _ _ => .refl _).append_left _
      _ |>.Perm (s.freeList.take (cellsFor a.length)
            ++ (s.freeList.drop (cellsFor a.length) ++ (messages s).flatMap Message.chain)) :=
          List.perm_append_comm_assoc _ _ _
      _ = s.freeList ++ (messages s).flatMap Message.chain := by rw [← List.append_assoc, List.take_append_drop]
  | @freed i m hi =>
    refine List.Perm.trans ?_ hs
    calc s.freeList ++ m.chain ++ (messages ((s.refund m).freeDesc i)).flatMap Message.chain
      _ = s.freeList ++ (m :: messages ((s.refund m).freeDesc i)).flatMap Message.chain := by
          rw [List.flatMap_cons, List.append_assoc]
      _ |>.Perm (s.freeList ++ (messages s).flatMap Message.chain) :=
          ((messages_refunded hi).symm.flatMap fun _ _ => .refl _).append_left _
  | configured hrange huse =>
    rw [CellLaw, messages_configureTaken]
    exact hs
  | cleared h hc => exact cellLaw_of_cleared h

/-- The free cells are the cells that no chain holds. -/
theorem freeList_length {s : State} (h : CellLaw s) :
    s.freeList.length = 512 - ((messages s).map fun m => m.chain.length).sum := by
  have hlen := h.length_eq
  rw [List.length_append, List.length_flatMap, allCells_length] at hlen
  omega

/-- Settles O56: every step is a run of changes of the books, and each of them keeps the cells. -/
theorem stepKeepsCells : Obligations.StepKeepsCells :=
  ⟨cellLaw_of_cleared cleared_reset, fun _ _ h => step_keeps cellLaw_step h, fun _ => freeList_length⟩

/-! ## Charges (R30) -/

theorem wellComposed_of_unmarked {m n : Message} (h : unmarked n = unmarked m) (hn : WellComposed n) :
    WellComposed m := by
  have hu : WellComposed (unmarked n) := hn
  rw [h] at hu
  exact hu

/-- ChargeLaw lane by lane. -/
theorem chargeLaw_iff (s : State) :
    ChargeLaw s ↔ ∀ p : Port,
      (∀ l, (s.port p).reservedUse.get l = reservedSum s p l) ∧ (s.port p).borrowed = sharedSum s p := by
  refine forall_congr' fun p => ?_
  refine ⟨fun ⟨hu, hr, hb⟩ => ⟨fun l => ?_, hb⟩, fun ⟨hl, hb⟩ => ⟨hl .urgent, hl .routine, hb⟩⟩
  cases l
  · exact hu
  · exact hr

/-- The message of a taken OPEN is well composed (R2, R21, R27, R39). -/
theorem wellComposed_allocated {s : State} {p : Port} {a : OpenArgs} {c : Charge}
    (hlength : 1 ≤ a.length ∧ a.length ≤ 256)
    (hdest : ValidDestinations p a.destinations)
    (hgrant : s.grant p a.lane (cellsFor a.length) = some c) (hcells : cellsFor a.length ≤ s.freeList.length) :
    WellComposed (allocated s p a c) := by
  have hchain : (s.freeList.take (cellsFor a.length)).length = cellsFor a.length := by
    rw [List.length_take, Nat.min_eq_left hcells]
  exact ⟨hlength.1, hlength.2, hchain, (State.grant_total hgrant).trans hchain.symm, hdest⟩

theorem messageLaw_of_cleared {s : State} (h : Cleared s) : MessageLaw s := by
  intro m hm
  rw [h.messages] at hm
  cases hm

/-- Every change of the books keeps the messages well composed. -/
theorem messageLaw_step {s t : State} (h : BookStep s t) (hs : MessageLaw s) : MessageLaw t := by
  rw [messageLaw_iff] at hs ⊢
  intro n hn
  cases h with
  | same h =>
    have hmem : unmarked n ∈ (messages s).map unmarked := h.content.mem_iff.mp (List.mem_map_of_mem hn)
    obtain ⟨m, hm, hmn⟩ := List.mem_map.mp hmem
    exact wellComposed_of_unmarked hmn (hs m hm)
  | @opened p a i c hlength hdest hroom hfree hgrant hcells =>
    rcases List.mem_cons.mp ((messages_allocate p a c hfree).mem_iff.mp hn) with rfl | hn
    · exact wellComposed_allocated hlength hdest hgrant hcells
    · exact hs n hn
  | freed hi => exact hs n ((messages_refunded hi).mem_iff.mpr (List.mem_cons_of_mem _ hn))
  | configured hrange huse =>
    rw [messages_configureTaken] at hn
    exact hs n hn
  | cleared h hc => exact messageLaw_of_cleared h n hn

theorem chargeLaw_of_cleared {s : State} (h : Cleared s) : ChargeLaw s := by
  intro p
  simp [h.reservedUse, h.borrowed, reservedSum, sharedSum, h.messages]

/-- Every change of the books keeps each port's charges the sums over its messages. -/
theorem chargeLaw_step {s t : State} (h : BookStep s t) (hs : ChargeLaw s) : ChargeLaw t := by
  have hs' := (chargeLaw_iff s).mp hs
  refine (chargeLaw_iff t).mpr fun q => ?_
  obtain ⟨hreserved, hborrowed⟩ := hs' q
  cases h with
  | same h =>
    refine ⟨fun l => ?_, ?_⟩
    · rw [h.reservedUse, h.reservedSum_eq, hreserved]
    · rw [h.borrowed, h.sharedSum_eq, hborrowed]
  | @opened p a i c hlength hdest hroom hfree hgrant hcells =>
    have hperm := messages_allocate p a c hfree
    obtain ⟨-, hr, hb⟩ := account_allocate s p a i c q
    refine ⟨fun l => ?_, ?_⟩
    · rw [hr, hreserved, reservedSum_eq, reservedSum_eq, (hperm.map _).sum_eq, List.map_cons, List.sum_cons,
        Nat.add_comm]
    · rw [hb, hborrowed, sharedSum_eq, sharedSum_eq, (hperm.map _).sum_eq, List.map_cons, List.sum_cons,
        Nat.add_comm]
  | @freed i m hi =>
    have hperm := messages_refunded hi
    obtain ⟨-, hr, hb⟩ := account_refunded s i m q
    refine ⟨fun l => ?_, ?_⟩
    · rw [hr, hreserved, reservedSum_eq, reservedSum_eq, (hperm.map _).sum_eq, List.map_cons, List.sum_cons,
        Nat.add_sub_cancel_left]
    · rw [hb, hborrowed, sharedSum_eq, sharedSum_eq, (hperm.map _).sum_eq, List.map_cons, List.sum_cons,
        Nat.add_sub_cancel_left]
  | @configured issuer r f v hrange huse =>
    obtain ⟨-, hr, hb⟩ := account_configureTaken s issuer r f v q
    rw [hr, hb]
    exact ⟨hreserved, hborrowed⟩
  | cleared h hc => exact (chargeLaw_iff t).mp (chargeLaw_of_cleared h) q

/-! ## The free cells (R30) -/

/-- The chains of a list of messages are as long as the charges that the ports have for them. -/
theorem sum_chains {ms : List Message} (h : ∀ m ∈ ms, m.reservedCharge + m.sharedCharge = m.chain.length) :
    (ms.map fun m => m.chain.length).sum
      = sumPorts fun p =>
          (ms.map (reservedOf p .urgent)).sum + (ms.map (reservedOf p .routine)).sum + (ms.map (sharedOf p)).sum := by
  induction ms with
  | nil => rfl
  | cons m rest ih =>
    have hm : sumPorts (fun p => reservedOf p .urgent m + reservedOf p .routine m + sharedOf p m) = m.chain.length :=
      (sumPorts_charge m).trans (h m List.mem_cons_self)
    have hrest := ih fun n hn => h n (List.mem_cons_of_mem _ hn)
    simp only [List.map_cons, List.sum_cons, hrest, ← hm, ← sumPorts_add]
    congr 1
    funext p
    omega

/-- The free cells and the ports' charges make up the 512 cells. -/
theorem freeList_and_charges {s : State} (hm : MessageLaw s) (hch : ChargeLaw s) (hcell : CellLaw s) :
    s.freeList.length
      + sumPorts (fun p => (s.port p).reservedUse.urgent + (s.port p).reservedUse.routine + (s.port p).borrowed)
      = 512 := by
  have hcharges :
      sumPorts (fun p => (s.port p).reservedUse.urgent + (s.port p).reservedUse.routine + (s.port p).borrowed)
      = ((messages s).map fun m => m.chain.length).sum := by
    have hsplit : ∀ m ∈ messages s, m.reservedCharge + m.sharedCharge = m.chain.length := by
      intro m hmem
      obtain ⟨-, -, -, hsplit, -⟩ := hm m hmem
      exact hsplit
    rw [sum_chains hsplit]
    congr 1
    funext p
    obtain ⟨hu, hr, hb⟩ := hch p
    rw [hu, hr, hb, reservedSum_eq, reservedSum_eq, sharedSum_eq]
  have hlen := hcell.length_eq
  rw [List.length_append, List.length_flatMap, allCells_length] at hlen
  omega

/-- The free list is as long as the unused allotments and the unused shared capacity together. -/
theorem freeCellLaw {s : State} (hcfg : ConfigLaw s) (hcredit : CreditLaw s) (hm : MessageLaw s) (hch : ChargeLaw s)
    (hcell : CellLaw s) : FreeCellLaw s := by
  have hfree := freeList_and_charges hm hch hcell
  obtain ⟨hports, hshared⟩ := hcredit
  have hunused :
      sumPorts (fun p =>
          ((s.port p).config.reserved.urgent - (s.port p).reservedUse.urgent)
            + ((s.port p).config.reserved.routine - (s.port p).reservedUse.routine))
        + sumPorts (fun p => (s.port p).reservedUse.urgent + (s.port p).reservedUse.routine + (s.port p).borrowed)
        = s.totalAllotments + s.totalBorrowed := by
    rw [State.totalAllotments, State.totalBorrowed, ← sumPorts_add, ← sumPorts_add]
    congr 1
    funext p
    obtain ⟨hu, hr, -⟩ := hports p
    rw [PortConfig.allotments]
    omega
  have htotal := hcfg.2
  have hcapacity : s.sharedCapacity = 512 - s.totalAllotments := rfl
  rw [FreeCellLaw]
  omega

theorem le_sumPorts (f : Port → Nat) (p : Port) : f p ≤ sumPorts f := by
  cases p <;> simp only [sumPorts] <;> omega

/-- A granted charge is within the unused allotment of its lane and the unused shared capacity. -/
theorem grant_le_freeList {s : State} (h : FreeCellLaw s) {p : Port} {l : Lane} {k : Nat} {c : Charge}
    (hg : s.grant p l k = some c) : c.reserved + c.shared ≤ s.freeList.length := by
  obtain ⟨hr, -, hsh, -⟩ := State.grant_eq_some.mp hg
  have hport := le_sumPorts (fun p =>
    ((s.port p).config.reserved.urgent - (s.port p).reservedUse.urgent)
      + ((s.port p).config.reserved.routine - (s.port p).reservedUse.routine)) p
  have hlane : (s.port p).config.reserved.get l - (s.port p).reservedUse.get l
      ≤ ((s.port p).config.reserved.urgent - (s.port p).reservedUse.urgent)
        + ((s.port p).config.reserved.routine - (s.port p).reservedUse.routine) := by
    cases l
    · exact Nat.le_add_right _ _
    · exact Nat.le_add_left _ _
  rw [h]
  omega

/-- Settles O57: every step is a run of changes of the books, each of which keeps the charges; the free cells are then
what the charges leave of the 512. -/
theorem stepKeepsCharges : Obligations.StepKeepsCharges :=
  ⟨messageLaw_of_cleared cleared_reset, chargeLaw_of_cleared cleared_reset,
    fun _ _ h hm hch => ⟨step_keeps messageLaw_step h hm, step_keeps chargeLaw_step h hch⟩,
    fun _ hcfg hcredit hm hch hcell =>
      have hfree := freeCellLaw hcfg hcredit hm hch hcell
      ⟨hfree, fun _ _ _ _ hg => grant_le_freeList hfree hg⟩⟩

/-! ## Limits (R14, R24, R26, R148) -/

/-- What ConfigLaw says of one record (R148). -/
def RecordInRange (c : PortConfig) : Prop :=
  c.reserved.urgent ≤ 128 ∧ c.reserved.routine ≤ 128 ∧ c.borrowCeiling ≤ 512 ∧ 1 ≤ c.outstandingCap
    ∧ c.outstandingCap ≤ 64 ∧ c.paceInterval ≤ 65535 ∧ 8 ≤ c.bucketDepth ∧ c.bucketDepth ≤ 512

theorem configLaw_iff (s : State) :
    ConfigLaw s ↔ (∀ p : Port, RecordInRange (s.port p).config) ∧ s.totalAllotments ≤ 512 := Iff.rfl

/-- CONFIGURE keeps a record in range, for its value is in the range of its field (R161). -/
theorem recordInRange_setField {c : PortConfig} {f : ConfigField} {v : Nat} (hv : f.inRange v = true)
    (hc : RecordInRange c) : RecordInRange (c.setField f v) := by
  obtain ⟨hu, hr, hb, ho1, ho2, hp, hd1, hd2⟩ := hc
  cases f with
  | reserved l =>
    have hv128 : v ≤ 128 := of_decide_eq_true hv
    cases l
    · exact ⟨hv128, hr, hb, ho1, ho2, hp, hd1, hd2⟩
    · exact ⟨hu, hv128, hb, ho1, ho2, hp, hd1, hd2⟩
  | borrowCeiling => exact ⟨hu, hr, of_decide_eq_true hv, ho1, ho2, hp, hd1, hd2⟩
  | outstandingCap =>
    obtain ⟨hv1, hv2⟩ := of_decide_eq_true hv
    exact ⟨hu, hr, hb, hv1, hv2, hp, hd1, hd2⟩
  | paceInterval => exact ⟨hu, hr, hb, ho1, ho2, of_decide_eq_true hv, hd1, hd2⟩
  | bucketDepth =>
    obtain ⟨hv1, hv2⟩ := of_decide_eq_true hv
    exact ⟨hu, hr, hb, ho1, ho2, hp, hv1, hv2⟩

/-- The sum of the allotments after a CONFIGURE (R24). -/
theorem totalAllotments_configureTaken (s : State) (issuer q : Port) (f : ConfigField) (v : Nat) :
    (s.configureTaken issuer q f v).totalAllotments =
      match f with
      | .reserved l => s.totalAllotments - (s.port q).config.reserved.get l + v
      | _ => s.totalAllotments := by
  have hconfig := fun p => (account_configureTaken s issuer q f v p).1
  have hchange : (s.configureTaken issuer q f v).totalAllotments + (s.port q).config.allotments
      = s.totalAllotments + ((s.port q).config.setField f v).allotments := by
    have h := sumPorts_change (f := fun p => (s.port p).config.allotments)
      (g := fun p => ((s.configureTaken issuer q f v).port p).config.allotments) q fun p hp => by
        simp only [hconfig, if_neg hp]
    have hq := hconfig q
    rw [if_pos rfl] at hq
    rw [← hq]
    exact h
  have hle : (s.port q).config.allotments ≤ s.totalAllotments := le_sumPorts (fun p => (s.port p).config.allotments) q
  cases f with
  | reserved l =>
    cases l <;> simp only [PortConfig.setField, PortConfig.allotments, PerLane.set, PerLane.get] at hchange hle ⊢
      <;> omega
  | borrowCeiling => exact Nat.add_right_cancel hchange
  | outstandingCap => exact Nat.add_right_cancel hchange
  | paceInterval => exact Nat.add_right_cancel hchange
  | bucketDepth => exact Nat.add_right_cancel hchange

theorem totalBorrowed_configureTaken (s : State) (issuer q : Port) (f : ConfigField) (v : Nat) :
    (s.configureTaken issuer q f v).totalBorrowed = s.totalBorrowed := by
  simp only [State.totalBorrowed, (account_configureTaken s issuer q f v _).2.2]

/-- What the IN_USE tests leave of a new allotment (R160). -/
theorem inUse_reserved_eq_false {s : State} {q : Port} {l : Lane} {v : Nat} (h : s.inUse q (.reserved l) v = false) :
    (s.port q).reservedUse.get l ≤ v ∧ s.totalAllotments - (s.port q).config.reserved.get l + v ≤ 512
      ∧ s.totalBorrowed ≤ 512 - (s.totalAllotments - (s.port q).config.reserved.get l + v) := by
  have hnot := of_decide_eq_false h
  simp only [Config.cellCount] at hnot
  omega

/-- A record keeps the fields that CONFIGURE does not name. -/
theorem setField_reserved (c : PortConfig) (f : ConfigField) (v : Nat) (k : Lane) :
    (c.setField f v).reserved.get k = if f = .reserved k then v else c.reserved.get k := by
  cases f with
  | reserved l =>
    change (c.reserved.set l v).get k = _
    rw [PerLane.get_set]
    simp only [ConfigField.reserved.injEq, eq_comm]
  | _ => rfl

theorem setField_borrowCeiling (c : PortConfig) (f : ConfigField) (v : Nat) :
    (c.setField f v).borrowCeiling = if f = .borrowCeiling then v else c.borrowCeiling := by
  cases f <;> rfl

theorem setField_outstandingCap (c : PortConfig) (f : ConfigField) (v : Nat) :
    (c.setField f v).outstandingCap = if f = .outstandingCap then v else c.outstandingCap := by
  cases f <;> rfl

/-! ### Records in range -/

/-- The default records are in range, and their allotments leave shared capacity (R148). -/
theorem configLaw_of_default {s : State} (h : ∀ p, (s.port p).config = PortConfig.default) : ConfigLaw s := by
  refine ⟨fun p => ?_, ?_⟩
  · rw [h]
    decide
  · simp only [State.totalAllotments, h]
    decide

/-- Every change of the books keeps the records in range and the sum of the allotments at 512 or below. -/
theorem configLaw_step {s t : State} (h : BookStep s t) (hs : ConfigLaw s) : ConfigLaw t := by
  obtain ⟨hrange, htotal⟩ := (configLaw_iff s).mp hs
  have of_config : (∀ p, (t.port p).config = (s.port p).config) → ConfigLaw t := fun hc =>
    ⟨fun p => by rw [hc]; exact hrange p, by simpa only [State.totalAllotments, hc] using htotal⟩
  cases h with
  | same h => exact of_config h.config
  | @opened p a i c hlength hdest hroom hfree hgrant hcells => exact of_config fun q => (account_allocate s p a i c q).1
  | @freed i m hi => exact of_config fun q => (account_refunded s i m q).1
  | @configured issuer q f v hv huse =>
    refine ⟨fun p => ?_, ?_⟩
    · rw [(account_configureTaken s issuer q f v p).1]
      split
      · exact recordInRange_setField hv (hrange p)
      · exact hrange p
    · rw [totalAllotments_configureTaken]
      cases f with
      | reserved l => exact (inUse_reserved_eq_false huse).2.1
      | _ => exact htotal
  | cleared h hc =>
    rcases hc with hc | hc
    · exact of_config hc
    · exact configLaw_of_default hc

/-! ### Charges within allotments, ceilings and shared capacity -/

/-- CreditLaw lane by lane. -/
theorem creditLaw_iff (s : State) :
    CreditLaw s ↔
      (∀ p : Port, (∀ l, (s.port p).reservedUse.get l ≤ (s.port p).config.reserved.get l)
          ∧ (s.port p).borrowed ≤ (s.port p).config.borrowCeiling)
        ∧ s.totalBorrowed ≤ s.sharedCapacity := by
  refine and_congr_left fun _ => forall_congr' fun p => ?_
  refine ⟨fun ⟨hu, hr, hb⟩ => ⟨fun l => ?_, hb⟩, fun ⟨hl, hb⟩ => ⟨hl .urgent, hl .routine, hb⟩⟩
  cases l
  · exact hu
  · exact hr

theorem creditLaw_of_cleared {s : State} (h : Cleared s) : CreditLaw s := by
  refine ⟨fun p => ?_, ?_⟩
  · simp [h.reservedUse, h.borrowed]
  · simp [State.totalBorrowed, h.borrowed, sumPorts]

/-- A granted charge stays within the limits (R27). -/
theorem creditLaw_allocate {s : State} {p : Port} {a : OpenArgs} {i : DescIndex} {c : Charge}
    (hgrant : s.grant p a.lane (cellsFor a.length) = some c) (hs : CreditLaw s) : CreditLaw (s.allocate p a i c) := by
  obtain ⟨hports, hshared⟩ := (creditLaw_iff s).mp hs
  obtain ⟨hcr, -, hcs, hceiling⟩ := State.grant_eq_some.mp hgrant
  have haccount := account_allocate s p a i c
  have hcapacity : (s.allocate p a i c).sharedCapacity = s.sharedCapacity := by
    simp only [State.sharedCapacity, State.totalAllotments, (haccount _).1]
  have htotal : (s.allocate p a i c).totalBorrowed = s.totalBorrowed + c.shared := by
    simp only [State.totalBorrowed, (haccount _).2.2, sumPorts_add]
    exact congrArg _ (sumPorts_ite p c.shared)
  refine (creditLaw_iff _).mpr ⟨fun q => ?_, by omega⟩
  obtain ⟨hlane, hborrowed⟩ := hports q
  obtain ⟨hc, hr, hb⟩ := haccount q
  rw [hc, hb]
  refine ⟨fun l => ?_, ?_⟩
  · rw [hr]
    have hl := hlane l
    unfold reservedOf
    split
    · next h =>
      obtain ⟨rfl, rfl⟩ : p = q ∧ a.lane = l := h
      change _ + c.reserved ≤ _
      omega
    · exact hl
  · unfold sharedOf
    split
    · next h =>
      obtain rfl : p = q := h
      exact hceiling
    · exact hborrowed

/-- The return of a charge lowers the charges. -/
theorem creditLaw_refunded {s : State} {i : DescIndex} {m : Message} (hs : CreditLaw s) :
    CreditLaw ((s.refund m).freeDesc i) := by
  obtain ⟨hports, hshared⟩ := (creditLaw_iff s).mp hs
  have haccount := account_refunded s i m
  have hcapacity : ((s.refund m).freeDesc i).sharedCapacity = s.sharedCapacity := by
    simp only [State.sharedCapacity, State.totalAllotments, (haccount _).1]
  have htotal : ((s.refund m).freeDesc i).totalBorrowed ≤ s.totalBorrowed :=
    sumPorts_le fun q => by
      rw [(haccount q).2.2]
      exact Nat.sub_le _ _
  refine (creditLaw_iff _).mpr ⟨fun q => ?_, by omega⟩
  obtain ⟨hlane, hborrowed⟩ := hports q
  obtain ⟨hc, hr, hb⟩ := haccount q
  rw [hc, hb]
  refine ⟨fun l => ?_, (Nat.sub_le _ _).trans hborrowed⟩
  rw [hr]
  exact (Nat.sub_le _ _).trans (hlane l)

/-- A CONFIGURE that the IN_USE tests let through leaves the charges within the new limits (R160). -/
theorem creditLaw_configureTaken {s : State} {issuer q : Port} {f : ConfigField} {v : Nat}
    (huse : s.inUse q f v = false) (hs : CreditLaw s) : CreditLaw (s.configureTaken issuer q f v) := by
  obtain ⟨hports, hshared⟩ := (creditLaw_iff s).mp hs
  refine (creditLaw_iff _).mpr ⟨fun p => ?_, ?_⟩
  · obtain ⟨hlane, hborrowed⟩ := hports p
    obtain ⟨hc, hr, hb⟩ := account_configureTaken s issuer q f v p
    rw [hc, hr, hb]
    split
    · next hp =>
      subst hp
      refine ⟨fun l => ?_, ?_⟩
      · rw [setField_reserved]
        split
        · next hf =>
          subst hf
          exact (inUse_reserved_eq_false huse).1
        · exact hlane l
      · rw [setField_borrowCeiling]
        split
        · next hf =>
          subst hf
          exact Nat.le_of_not_lt (of_decide_eq_false huse)
        · exact hborrowed
    · exact ⟨hlane, hborrowed⟩
  · rw [totalBorrowed_configureTaken, State.sharedCapacity, totalAllotments_configureTaken]
    cases f with
    | reserved l => exact (inUse_reserved_eq_false huse).2.2
    | _ => exact hshared

/-- Every change of the books keeps the charges within the allotments, the ceilings and the shared capacity. -/
theorem creditLaw_step {s t : State} (h : BookStep s t) (hs : CreditLaw s) : CreditLaw t := by
  cases h with
  | same h =>
    refine ⟨fun p => ?_, ?_⟩
    · rw [h.config, h.reservedUse, h.borrowed]
      exact hs.1 p
    · rw [h.totalBorrowed, h.sharedCapacity]
      exact hs.2
  | opened hlength hdest hroom hfree hgrant hcells => exact creditLaw_allocate hgrant hs
  | freed hi => exact creditLaw_refunded hs
  | configured hrange huse => exact creditLaw_configureTaken huse hs
  | cleared h hc => exact creditLaw_of_cleared h

/-! ### Outstanding counts within the caps -/

theorem capLaw_of_cleared {s : State} (h : Cleared s) : CapLaw s := by
  intro p
  simp [outstanding_eq_count, h.messages]

/-- Every change of the books keeps the outstanding counts within the caps. -/
theorem capLaw_step {s t : State} (h : BookStep s t) (hs : CapLaw s) : CapLaw t := by
  cases h with
  | same h =>
    intro q
    rw [h.outstanding, h.config]
    exact hs q
  | @opened p a i c hlength hdest hroom hfree hgrant hcells =>
    intro q
    have hcount := ((messages_allocate p a c hfree).map Message.source).count_eq q
    rw [(account_allocate s p a i c q).1, outstanding_eq_count, hcount, List.map_cons, List.count_cons,
      ← outstanding_eq_count]
    split
    · next h =>
      obtain rfl : p = q := beq_iff_eq.mp h
      exact hroom
    · exact hs q
  | @freed i m hi =>
    intro q
    have hcount := ((messages_refunded hi).map Message.source).count_eq q
    have hle : ((s.refund m).freeDesc i).outstanding q ≤ s.outstanding q := by
      rw [outstanding_eq_count, outstanding_eq_count, hcount, List.map_cons]
      exact List.count_le_count_cons
    rw [(account_refunded s i m q).1]
    exact hle.trans (hs q)
  | @configured issuer q f v hrange huse =>
    intro p
    rw [(account_configureTaken s issuer q f v p).1, outstanding_eq_count, messages_configureTaken,
      ← outstanding_eq_count]
    split
    · next hp =>
      subst hp
      rw [setField_outstandingCap]
      split
      · next hf =>
        subst hf
        exact Nat.le_of_not_lt (of_decide_eq_false huse)
      · exact hs p
    · exact hs p
  | cleared h hc => exact capLaw_of_cleared h

/-- Settles O53: every step is a run of changes of the books, each of which keeps the limits. -/
theorem stepKeepsLimits : Obligations.StepKeepsLimits :=
  ⟨fun _ _ h => ⟨step_keeps configLaw_step h, fun _ => step_keeps creditLaw_step h, step_keeps capLaw_step h⟩,
    configLaw_of_default fun p => by cases p <;> rfl, creditLaw_of_cleared cleared_reset,
    capLaw_of_cleared cleared_reset⟩

end Books
end Sys2Proof
end

section
/-! PROOFS. Deliveries: what the inbound queues and the LIVE descriptors hold, the three kinds of event that change them
(a delivery, a removal of a head entry, a reset), and the laws of R3 and R91 that every step keeps. -/

namespace Sys2Proof
namespace Deliveries

open Sys2Proof.Machine Sys2Proof.Safety Sys2Proof.Books

/-! ## Letters and mail: what the laws read of a state -/

/-- A LIVE message under its generation, apart from its fault mark, which READ alone sets (R36). -/
structure Letter where
  generation : Fin 512
  message : Message
  delivery : Delivery

/-- The handle that names a letter at its descriptor (R6). -/
def Letter.handle (v : Letter) (i : DescIndex) : Handle := handleOf v.generation i

/-- The letter of a LIVE descriptor. -/
def letterOf (d : Descriptor) : Option Letter :=
  match d.state with
  | .live m dl => some { generation := d.generation, message := unmarked m, delivery := dl }
  | _ => none

/-- The entries of every inbound queue, and the letter of every LIVE descriptor. -/
structure Mail where
  entries : Port → Lane → List Entry
  letter : DescIndex → Option Letter

/-- The entries of a port's queue on a lane. -/
def entriesOf (x : PortState) (l : Lane) : List Entry := (x.inbound.get l).entries

/-- The mail that a state holds. -/
def mail (s : State) : Mail where
  entries p l := entriesOf (s.port p) l
  letter i := letterOf (s.desc i)

theorem letterOf_live {d : Descriptor} {m : Message} {dl : Delivery} (h : d.state = .live m dl) :
    letterOf d = some { generation := d.generation, message := unmarked m, delivery := dl } := by
  rw [letterOf, h]

theorem letterOf_eq_none {d : Descriptor} (h : ∀ m dl, d.state ≠ .live m dl) : letterOf d = none := by
  unfold letterOf
  split
  · next hd => exact absurd hd (h _ _)
  · rfl

theorem letterOf_undelivered {d : Descriptor} {m : Message} (h : d.state.undelivered? = some m) :
    letterOf d = none := by
  refine letterOf_eq_none fun n dl hd => ?_
  rw [hd] at h
  cases h

theorem mail_eq_of {s t : State} (he : ∀ p, entriesOf (t.port p) = entriesOf (s.port p)) (ht : t.table = s.table) :
    mail t = mail s := by
  simp only [mail, he, State.desc, ht]

/-! ### The parts of a mail that an event changes -/

namespace Mail

/-- No entry and no letter: the mail after a reset. -/
def empty : Mail where
  entries _ _ := []
  letter _ := none

/-- The mail with another letter, or none, at a descriptor. -/
def setLetter (M : Mail) (i : DescIndex) (v : Option Letter) : Mail := { M with letter := Function.update M.letter i v }

/-- The mail with the head entry of a queue gone. -/
def dropHead (M : Mail) (p : Port) (l : Lane) : Mail :=
  { M with entries := fun q k => if q = p ∧ k = l then (M.entries q k).tail else M.entries q k }

/-- The mail with an entry more on a lane of some ports. -/
def append (M : Mail) (e : Entry) (l : Lane) (ports : List Port) : Mail :=
  { M with entries := fun q k => if q ∈ ports ∧ k = l then M.entries q k ++ [e] else M.entries q k }

theorem setLetter_letter (M : Mail) (i j : DescIndex) (v : Option Letter) :
    (M.setLetter i v).letter j = if j = i then v else M.letter j := Function.update_apply _ _ _ _

theorem setLetter_letter_self (M : Mail) (i : DescIndex) (v : Option Letter) : (M.setLetter i v).letter i = v := by
  rw [setLetter_letter, if_pos rfl]

theorem setLetter_letter_ne (M : Mail) {i j : DescIndex} (v : Option Letter) (h : j ≠ i) :
    (M.setLetter i v).letter j = M.letter j := by
  rw [setLetter_letter, if_neg h]

theorem setLetter_eq_self {M : Mail} {i : DescIndex} {v : Option Letter} (h : M.letter i = v) : M.setLetter i v = M := by
  subst h
  simp only [setLetter, Function.update_eq_self]

/-- How many entries of a queue carry a handle. -/
def count (M : Mail) (p : Port) (l : Lane) (h : Handle) : Nat := (M.entries p l).countP fun e => decide (e.handle = h)

theorem count_setLetter (M : Mail) (i : DescIndex) (v : Option Letter) (p : Port) (l : Lane) (h : Handle) :
    (M.setLetter i v).count p l h = M.count p l h := rfl

/-- A head entry that leaves is one entry fewer under its handle. -/
theorem count_dropHead {M : Mail} {p : Port} {l : Lane} {e : Entry} {rest : List Entry} (hq : M.entries p l = e :: rest)
    (q : Port) (k : Lane) (h : Handle) :
    (M.dropHead p l).count q k h + (if (q = p ∧ k = l) ∧ e.handle = h then 1 else 0) = M.count q k h := by
  by_cases hqk : q = p ∧ k = l
  · obtain ⟨rfl, rfl⟩ := hqk
    simp [count, dropHead, hq, List.countP_cons]
  · simp [count, dropHead, hqk]

theorem count_append (M : Mail) (e : Entry) (l : Lane) (ports : List Port) (q : Port) (k : Lane) (h : Handle) :
    (M.append e l ports).count q k h = M.count q k h + if (q ∈ ports ∧ k = l) ∧ e.handle = h then 1 else 0 := by
  by_cases hqk : q ∈ ports ∧ k = l
  · simp [count, append, hqk, List.countP_append, List.countP_singleton]
  · simp [count, append, hqk]

end Mail

/-! ## What the operations do to the mail -/

section Operations

variable (s : State) (p : Port)

theorem mail_modifyPort_of_entries {f : PortState → PortState} (h : ∀ x, entriesOf (f x) = entriesOf x) :
    mail (s.modifyPort p f) = mail s := by
  refine mail_eq_of (fun q => ?_) rfl
  rw [State.port_modifyPort]
  split
  · next hq => rw [h, hq]
  · rfl

theorem mail_mapPorts {f : Port → PortState → PortState} (h : ∀ q x, entriesOf (f q x) = entriesOf x) :
    mail (s.mapPorts f) = mail s := mail_eq_of (fun q => by rw [State.port_mapPorts, h]) rfl

@[simp] theorem mail_modifyPort {f : PortState → PortState} (h : ∀ x, (f x).inbound = x.inbound) :
    mail (s.modifyPort p f) = mail s :=
  mail_modifyPort_of_entries s p fun x => by
    funext l
    rw [entriesOf, entriesOf, h]

@[simp] theorem mail_raiseWhere (on : Port → Bool) (f : LatchedFlag) : mail (s.raiseWhere on f) = mail s :=
  mail_mapPorts s fun q x => by split <;> rfl

@[simp] theorem mail_raiseOn (f : LatchedFlag) : mail (s.raiseOn p f) = mail s := mail_modifyPort s p fun _ => rfl

@[simp] theorem mail_announcePeerChange : mail (s.announcePeerChange p) = mail s := mail_raiseWhere s _ _

@[simp] theorem mail_answer (r : Result) (b : List Byte) : mail (s.answer p r b) = mail s :=
  mail_modifyPort s p fun _ => rfl

@[simp] theorem mail_countMeters (f : Meters → Meters) : mail (s.countMeters p f) = mail s :=
  mail_modifyPort s p fun _ => rfl

@[simp] theorem mail_emptySlot : mail (s.emptySlot p) = mail s := mail_modifyPort s p fun _ => rfl

@[simp] theorem mail_setMarker : mail (s.setMarker p) = mail s := mail_modifyPort s p fun _ => rfl

@[simp] theorem mail_spendTokens (k : Nat) : mail (s.spendTokens p k) = mail s :=
  mail_modifyPort s p fun x => by split <;> rfl

@[simp] theorem mail_offer (n : Notice) : mail (s.offer p n) = mail s := by
  unfold State.offer
  split
  · split <;> simp
  · rfl

@[simp] theorem mail_renewLease : mail (s.renewLease p) = mail s := by
  rw [State.renewLease_eq]
  rfl

@[simp] theorem mail_dropClaim : mail s.dropClaim = mail s := rfl

@[simp] theorem mail_dropClaimOf : mail (s.dropClaimOf p) = mail s := by
  unfold State.dropClaimOf
  split <;> rfl

@[simp] theorem mail_grantClaim : mail (s.grantClaim p) = mail s := rfl

@[simp] theorem mail_with_pool (x : Pool) : mail { s with pool := x } = mail s := rfl

@[simp] theorem mail_with_claim (x : Option Claim) : mail { s with claim := x } = mail s := rfl

@[simp] theorem mail_with_leaseDue (x : Bool) : mail { s with leaseDue := x } = mail s := rfl

@[simp] theorem mail_with_pending (x : List Instr) : mail { s with pending := x } = mail s := rfl

@[simp] theorem mail_beginDetach (issuer : Port) : mail (s.beginDetach p issuer) = mail s := by
  simp [State.beginDetach]

/-- A change of a queue that keeps its entries. -/
theorem entriesOf_modifyQueue {f : InboundQueue → InboundQueue} (h : ∀ k, (f k).entries = k.entries) (x : PortState)
    (l : Lane) : entriesOf (x.modifyQueue l f) = entriesOf x := by
  funext k
  simp only [entriesOf, PortState.modifyQueue, PerLane.get_set]
  split
  · next hk => rw [h, hk]
  · rfl

@[simp] theorem mail_endSeries (l : Lane) : mail (s.endSeries p l) = mail s :=
  mail_modifyPort_of_entries s p fun x => entriesOf_modifyQueue (fun _ => by rfl) x l

@[simp] theorem mail_addWaiters (l : Lane) (full : List Port) : mail (s.addWaiters p l full) = mail s :=
  mail_mapPorts s fun q x => by
    split
    · exact entriesOf_modifyQueue (fun _ => by rfl) x l
    · rfl

@[simp] theorem mail_leaveWaiterSets : mail (s.leaveWaiterSets p) = mail s :=
  mail_mapPorts s fun _ _ => by
    funext l
    cases l <;> rfl

@[simp] theorem mail_deliverFail (m : Message) (j : Judgement) : mail (s.deliverFail m j) = mail s := by
  simp [State.deliverFail]

@[simp] theorem mail_resolveMarkers (on : Port → Bool) : mail (s.resolveMarkers on) = mail s :=
  mail_mapPorts s fun q x => by
    split
    · rw [PortState.resolveMarker_eq]
      rfl
    · rfl

@[simp] theorem mail_refund (m : Message) : mail (s.refund m) = mail s :=
  (mail_resolveMarkers _ m.resolves).trans
    (mail_modifyPort s m.source (f := fun x => x.uncharge m.lane m.split) fun _ => rfl)

@[simp] theorem mail_configureTaken (q : Port) (f : ConfigField) (v : Nat) :
    mail (s.configureTaken p q f v) = mail s := by
  have applied : mail (s.modifyPort q fun x => x.applyField f v) = mail s :=
    mail_modifyPort s q fun x => by cases f <;> rfl
  simp [State.configureTaken, applied]

@[simp] theorem mail_tickOnce : mail s.tickOnce = mail s :=
  mail_eq_of (fun q => by
    have counted : ∀ x : PortState, entriesOf x.countDown = entriesOf x := fun x => by
      unfold PortState.countDown
      split
      · rfl
      · split <;> rfl
    exact (congrArg entriesOf (PerPort.get_map _ _ _)).trans (counted _)) rfl

@[simp] theorem mail_lowerLease : mail s.lowerLease = mail s := by
  unfold State.lowerLease
  split
  · rfl
  · split <;> simp

/-! ### The message table -/

@[simp] theorem mail_setDesc (i : DescIndex) (d : Descriptor) :
    mail (s.setDesc i d) = (mail s).setLetter i (letterOf d) := by
  have letters : (fun j => letterOf ((s.setDesc i d).desc j))
      = Function.update (fun j => letterOf (s.desc j)) i (letterOf d) := by
    funext j
    rw [Function.update_apply, State.desc_setDesc]
    split <;> rfl
  simp only [mail, Mail.setLetter, letters, State.port_setDesc]

@[simp] theorem mail_freeDesc (i : DescIndex) : mail (s.freeDesc i) = (mail s).setLetter i none :=
  mail_setDesc s i _

variable {s}

/-- A message that stays undelivered, or that leaves the table undelivered, leaves the mail (R4). -/
theorem setLetter_of_undelivered {i : DescIndex} {m : Message} (h : (s.desc i).state.undelivered? = some m) :
    (mail s).setLetter i none = mail s := Mail.setLetter_eq_self (letterOf_undelivered h)

@[simp] theorem mail_abandonMessage (i : DescIndex) : mail (s.abandonMessage i) = mail s := by
  unfold State.abandonMessage
  split
  · next m h => simpa using setLetter_of_undelivered (m := m) (by rw [h]; rfl)
  · next m h => simpa using setLetter_of_undelivered (m := m) (by rw [h]; rfl)
  · rfl

@[simp] theorem mail_allocate (a : OpenArgs) {i : DescIndex} (c : Charge) (h : s.lowestFree = some i) :
    mail (s.allocate p a i c) = mail s := by
  have hnone : (mail s).letter i = none := letterOf_eq_none fun m dl hl => by
    rw [(State.lowestFree_eq_some h).1] at hl
    cases hl
  have charged : mail (s.modifyPort p fun x => x.charge a.lane c) = mail s := mail_modifyPort s p fun _ => rfl
  refine (mail_setDesc (s.modifyPort p fun x => x.charge a.lane c) i
    { generation := (s.desc i).generation, state := .opened (allocated s p a c) }).trans ?_
  rw [charged]
  exact Mail.setLetter_eq_self hnone

theorem mail_holdPost {i : DescIndex} {m : Message} (h : (s.desc i).state.undelivered? = some m) :
    mail (s.holdPost p i m) = mail s := by
  unfold State.holdPost
  rw [mail_modifyPort _ _ fun _ => by rfl, mail_setDesc]
  exact setLetter_of_undelivered h

/-- The fault mark of a LIVE message is no part of the mail (R36). -/
theorem mail_setFault {i : DescIndex} {m : Message} {d : Delivery} (h : (s.desc i).state = .live m d) :
    mail (s.setFault i m d) = mail s := by
  unfold State.setFault
  rw [mail_setDesc]
  exact Mail.setLetter_eq_self (letterOf_live (m := m) h)

end Operations

/-! ### Removals and deliveries -/

/-- What a letter becomes when a reader finishes: the letter with one reader fewer, or none after the last (R79, R93). -/
def Letter.finished (v : Letter) (p : Port) (o : ReaderOutcome) : Option Letter :=
  if (v.delivery.finish p o).readers = 0 then none else some { v with delivery := v.delivery.finish p o }

theorem Letter.finished_eq_some {v w : Letter} {p : Port} {o : ReaderOutcome} :
    v.finished p o = some w
      ↔ (v.delivery.finish p o).readers ≠ 0 ∧ { v with delivery := v.delivery.finish p o } = w := by
  unfold Letter.finished
  split <;> simp [*]

theorem mail_dropHead (s : State) (p : Port) (l : Lane) : mail (s.dropHead p l) = (mail s).dropHead p l := by
  have dropped : ∀ f : InboundQueue → InboundQueue, (∀ k, (f k).entries = k.entries.tail) →
      mail (s.modifyQueue p l f) = (mail s).dropHead p l := by
    intro f hf
    simp only [mail, Mail.dropHead, State.modifyQueue, State.port_modifyPort, State.modifyPort_desc, Mail.mk.injEq,
      and_true]
    funext q k
    by_cases hq : q = p
    · subst hq
      by_cases hk : k = l
      · subst hk
        simp [entriesOf, PortState.modifyQueue, hf]
      · simp [entriesOf, PortState.modifyQueue, PerLane.get_set, hk]
    · simp [hq]
  unfold State.dropHead
  dsimp only
  split
  · rw [mail_raiseWhere]
    exact dropped _ fun _ => rfl
  · exact dropped _ fun _ => rfl

/-- A removal of the head entry of a queue on the mail (R79). -/
theorem mail_removeHead {s : State} {p : Port} {l : Lane} {hd : Head} {v : Letter}
    (hv : v = { generation := (s.desc (handleIndex hd.entry.handle)).generation, message := unmarked hd.message,
                delivery := hd.delivery }) (o : ReaderOutcome) :
    mail (s.removeHead p l hd o) = ((mail s).dropHead p l).setLetter (handleIndex hd.entry.handle) (v.finished p o) := by
  subst hv
  unfold State.removeHead State.finishReader Letter.finished
  dsimp only
  split
  · simp [State.retire, mail_dropHead]
  · rw [mail_setDesc, mail_dropHead, dropHead_desc]
    rfl

theorem mail_appendEntries (s : State) (e : Entry) (l : Lane) (ports : List Port) :
    mail (s.appendEntries e l ports) = (mail s).append e l ports := by
  simp only [mail, Mail.append, State.appendEntries, State.port_mapPorts, State.mapPorts_desc, Mail.mk.injEq, and_true]
  funext q k
  by_cases hq : q ∈ ports
  · by_cases hk : k = l
    · subst hk
      simp [entriesOf, PortState.modifyQueue, hq]
    · simp [entriesOf, PortState.modifyQueue, PerLane.get_set, hq, hk]
  · simp [hq]

/-- The letter that a successful delivery step makes of a message (R60). -/
def liveLetter (s : State) (i : DescIndex) (m : Message) (j : Judgement) : Letter :=
  { generation := (s.desc i).generation, message := unmarked m, delivery := j.delivery (s.port m.source).sequence }

/-- A successful delivery step on the mail (R60). -/
theorem mail_deliverOk (s : State) (i : DescIndex) (m : Message) (j : Judgement) :
    mail (s.deliverOk i m j)
      = ((mail s).append { handle := s.handleAt i, arrival := s.tick } m.lane j.accepting).setLetter i
          (some (liveLetter s i m j)) := by
  unfold State.deliverOk
  dsimp only
  rw [mail_modifyPort _ _ fun _ => by rfl, mail_addWaiters, mail_setDesc, mail_appendEntries]
  rfl

/-! ### Frames -/

section Frames

variable (s : State) (p : Port)

@[simp] theorem mail_endPeriod : mail (s.endPeriod p) = mail s := mail_modifyPort s p fun _ => rfl

/-- A frame leaves the mail if its effect does. -/
theorem mail_frame (miso : Byte → List Byte) {act : State → State} (h : ∀ t, mail (act t) = mail t) :
    mail (s.frame p miso act) = mail s := by
  unfold State.frame
  split
  · exact mail_endPeriod s p
  · exact (h _).trans (mail_modifyPort s p fun _ => rfl)
  · exact (h _).trans (mail_modifyPort s p fun _ => rfl)

@[simp] theorem mail_decideFrame (f : CommandFrame) (good : Bool) : mail (s.decideFrame p f good) = mail s := by
  unfold State.decideFrame
  split
  · split <;> simp
  · simp

@[simp] theorem mail_commandFrame (bytes : List Byte) : mail (s.commandFrame p bytes) = mail s := by
  unfold State.commandFrame
  split
  · exact mail_frame s p _ fun t => mail_decideFrame t p _ _
  · rfl

@[simp] theorem mail_brokenFrame (n : Nat) : mail (s.brokenFrame p n) = mail s :=
  mail_frame s p _ fun t => mail_raiseOn t p _

@[simp] theorem mail_fetchFrame (clocked : Nat) : mail (s.fetchFrame p clocked) = mail s := by
  unfold State.fetchFrame
  split
  · rfl
  · exact mail_frame s p _ fun t => mail_modifyPort t p fun _ => rfl

@[simp] theorem mail_writeRegister (r : WritableRegister) (v : Word) : mail (s.writeRegister p r v) = mail s :=
  mail_modifyPort s p fun x => by cases r <;> rfl

@[simp] theorem mail_registerFrame (r : WritableRegister) (v : Word) : mail (s.registerFrame p r v) = mail s :=
  mail_frame s p _ fun t => mail_writeRegister t p r v

@[simp] theorem mail_regReadFrame (rest : List Byte) : mail (s.regReadFrame p rest) = mail s := by
  cases rest with
  | nil => exact mail_brokenFrame s p 1
  | cons address more => exact mail_frame s p _ fun _ => rfl

@[simp] theorem mail_regWriteFrame (bytes : List Byte) : mail (s.regWriteFrame p bytes) = mail s := by
  unfold State.regWriteFrame
  split
  · split
    · rfl
    · split
      · exact mail_brokenFrame s p _
      · split
        · exact mail_frame s p _ fun t => mail_writeRegister t p _ _
        · exact mail_brokenFrame s p _
  · split
    · rfl
    · exact mail_brokenFrame s p _
  · rfl

@[simp] theorem mail_regFrame (bytes : List Byte) : mail (s.regFrame p bytes) = mail s := by
  unfold State.regFrame
  split
  · rfl
  · split
    · exact mail_regReadFrame s p _
    · exact mail_regWriteFrame s p _

end Frames

/-! ## The laws, read from the mail -/

theorem handle_eq_iff {h : Handle} {g : Fin 512} {i : DescIndex} :
    h = handleOf g i ↔ handleIndex h = i ∧ handleGeneration h = g := by
  have hi := i.isLt
  have hg := g.isLt
  rw [← BitVec.toNat_inj, handleOf_toNat, Fin.ext_iff, Fin.ext_iff, handleIndex_val, handleGeneration_val]
  omega

/-- Letters at different descriptors have different handles (R6). -/
theorem index_eq_of_handle_eq {v w : Letter} {i j : DescIndex} (h : v.handle i = w.handle j) : i = j := by
  obtain ⟨hv, -⟩ := handle_eq_iff.mp (rfl : v.handle i = handleOf v.generation i)
  obtain ⟨hw, -⟩ := handle_eq_iff.mp (h : v.handle i = handleOf w.generation j)
  exact hv.symm.trans hw

/-- Every entry carries the handle of a letter (R91). -/
def Mail.Named (M : Mail) : Prop :=
  ∀ p l, ∀ e ∈ M.entries p l, ∃ i v, M.letter i = some v ∧ e.handle = v.handle i

/-- A delivery counts its PENDING records, of which there is one or more, and keeps one record for each accepted
destination (R3, R91). -/
structure Letter.Counted (v : Letter) : Prop where
  pos : 1 ≤ v.delivery.readers
  readers : v.delivery.readers = v.delivery.outcomes.countP fun r => decide (r.2 = .pending)
  records : v.delivery.outcomes.map Prod.fst = v.delivery.accepted
  once : ∀ p, pendingCount v.delivery p ≤ 1

/-- How many entries a queue owes a letter: one on the letter's lane for a PENDING record (R91). -/
def Letter.owed (v : Letter) (p : Port) (l : Lane) : Nat := if l = v.message.lane then pendingCount v.delivery p else 0

/-- Every letter is counted, and every queue holds the entries that it owes the letter and no other (R3, R91). -/
def Mail.Matched (M : Mail) : Prop :=
  ∀ i v, M.letter i = some v → v.Counted ∧ ∀ p l, M.count p l (v.handle i) = v.owed p l

/-- The accepted and refusal sets split the requested destinations (R3). -/
def Letter.Divided (v : Letter) : Prop :=
  (v.delivery.accepted ++ v.delivery.refusedOffline ++ v.delivery.refusedFull).Perm v.message.destinations
    ∧ v.delivery.accepted ≠ []
    ∧ (v.message.mode = .all → v.delivery.refusedOffline = [] ∧ v.delivery.refusedFull = [])

theorem entryLaw_iff (s : State) : EntryLaw s ↔ (mail s).Named := by
  refine forall_congr' fun p => forall_congr' fun l => forall_congr' fun e => imp_congr_right fun _ => ?_
  constructor
  · intro h
    obtain ⟨⟨m, d⟩, hmd⟩ := Option.isSome_iff_exists.mp h
    obtain ⟨hstate, hgen⟩ := State.liveEntry_eq_some.mp hmd
    exact ⟨_, _, letterOf_live hstate, handle_eq_iff.mpr ⟨rfl, hgen.symm⟩⟩
  · rintro ⟨i, v, hv, he⟩
    obtain ⟨rfl, hgen⟩ := handle_eq_iff.mp he
    change letterOf (s.desc (handleIndex e.handle)) = some v at hv
    unfold letterOf at hv
    split at hv
    · next m d hstate =>
      cases hv
      exact Option.isSome_iff_exists.mpr ⟨(m, d), State.liveEntry_eq_some.mpr ⟨hstate, hgen.symm⟩⟩
    · cases hv

/-- What holds of every letter of a state holds of every LIVE message. -/
theorem forall_letter_iff (s : State) (P : DescIndex → Letter → Prop) :
    (∀ i v, (mail s).letter i = some v → P i v)
      ↔ ∀ i m d, (s.desc i).state = .live m d →
          P i { generation := (s.desc i).generation, message := unmarked m, delivery := d } := by
  refine ⟨fun h i m d hstate => h i _ (letterOf_live hstate), fun h i v hv => ?_⟩
  change letterOf (s.desc i) = some v at hv
  unfold letterOf at hv
  split at hv
  · next m d hstate =>
    cases hv
    exact h i m d hstate
  · cases hv

theorem splitLaw_iff (s : State) : SplitLaw s ↔ ∀ i v, (mail s).letter i = some v → v.Divided := by
  rw [forall_letter_iff s fun _ => Letter.Divided]
  refine forall_congr' fun i => ?_
  cases (s.desc i).state with
  | live m d => simp [Letter.Divided, unmarked]
  | _ => simp

/-- DeliveryLaw's two clauses on the queues say that each queue holds what it owes. -/
theorem counts_iff_owed (M : Mail) (h : Handle) (v : Letter) :
    ((∀ p, M.count p v.message.lane h = pendingCount v.delivery p ∧ pendingCount v.delivery p ≤ 1)
        ∧ ∀ p l, l ≠ v.message.lane → M.count p l h = 0)
      ↔ (∀ p, pendingCount v.delivery p ≤ 1) ∧ ∀ p l, M.count p l h = v.owed p l := by
  constructor
  · rintro ⟨hlane, hother⟩
    refine ⟨fun p => (hlane p).2, fun p l => ?_⟩
    unfold Letter.owed
    split
    · next hl =>
      rw [hl]
      exact (hlane p).1
    · next hl => exact hother p l hl
  · rintro ⟨honce, howed⟩
    refine ⟨fun p => ⟨?_, honce p⟩, fun p l hl => ?_⟩
    · rw [howed, Letter.owed, if_pos rfl]
    · rw [howed, Letter.owed, if_neg hl]

theorem deliveryLaw_iff (s : State) : DeliveryLaw s ↔ (mail s).Matched := by
  unfold Mail.Matched
  rw [forall_letter_iff s fun i v => v.Counted ∧ ∀ p l, (mail s).count p l (v.handle i) = v.owed p l]
  refine forall_congr' fun i => ?_
  cases hstate : (s.desc i).state with
  | live m d =>
    have counts := counts_iff_owed (mail s) (s.handleAt i)
      { generation := (s.desc i).generation, message := unmarked m, delivery := d }
    constructor
    · rintro ⟨hpos, hreaders, hrecords, hqueues⟩ _ _ ⟨⟩
      obtain ⟨honce, howed⟩ := counts.mp hqueues
      exact ⟨⟨hpos, hreaders, hrecords, honce⟩, howed⟩
    · intro h
      obtain ⟨⟨hpos, hreaders, hrecords, honce⟩, howed⟩ := h m d rfl
      exact ⟨hpos, hreaders, hrecords, counts.mpr ⟨honce, howed⟩⟩
  | _ => simp

/-- The laws of R3 and R91 on a mail. -/
structure Mail.Lawful (M : Mail) : Prop where
  named : M.Named
  matched : M.Matched
  divided : ∀ i v, M.letter i = some v → v.Divided

theorem lawful_iff (s : State) : EntryLaw s ∧ DeliveryLaw s ∧ SplitLaw s ↔ (mail s).Lawful := by
  rw [entryLaw_iff, deliveryLaw_iff, splitLaw_iff]
  exact ⟨fun ⟨hn, hm, hd⟩ => ⟨hn, hm, hd⟩, fun ⟨hn, hm, hd⟩ => ⟨hn, hm, hd⟩⟩

/-! ## PENDING records -/

/-- The PENDING records are those of the four ports together. -/
theorem pending_eq_sum (records : List (Port × ReaderOutcome)) :
    (records.countP fun r => decide (r.2 = .pending))
      = (Port.all.map fun p => records.countP fun r => decide (r = (p, .pending))).sum := by
  induction records with
  | nil => rfl
  | cons r rest ih =>
    obtain ⟨q, o⟩ := r
    simp only [List.countP_cons, ih]
    cases q <;> by_cases ho : o = .pending <;> simp [Port.all, ho] <;> omega

/-- Finishing for a port takes that port's PENDING records and no other (R3). -/
theorem pendingCount_finish (d : Delivery) (p q : Port) {o : ReaderOutcome} (ho : o ≠ .pending) :
    pendingCount (d.finish p o) q = if q = p then 0 else pendingCount d q := by
  simp only [pendingCount, Delivery.finish, setOutcome]
  induction d.outcomes with
  | nil => simp
  | cons r rest ih =>
    obtain ⟨x, y⟩ := r
    simp only [List.map_cons, List.countP_cons, ih]
    by_cases hq : q = p
    · subst hq
      by_cases hx : x = q <;> by_cases hy : y = .pending <;> simp [hx, hy, ho]
    · by_cases hx : x = p <;> by_cases hy : y = .pending <;> simp [hx, hy, ho, hq, Ne.symm hq]

theorem finish_records (d : Delivery) (p : Port) (o : ReaderOutcome) :
    (d.finish p o).outcomes.map Prod.fst = d.outcomes.map Prod.fst := by
  simp only [Delivery.finish, setOutcome, List.map_map]
  refine List.map_congr_left fun r _ => ?_
  simp only [Function.comp_apply]
  split <;> rfl

/-- The PENDING records before a reader finishes are those after it and the reader's own. -/
theorem pending_finish (d : Delivery) (p : Port) {o : ReaderOutcome} (ho : o ≠ .pending) :
    ((d.finish p o).outcomes.countP fun r => decide (r.2 = .pending)) + pendingCount d p
      = d.outcomes.countP fun r => decide (r.2 = .pending) := by
  have hfinish := pendingCount_finish d p (ho := ho)
  simp only [pendingCount] at hfinish
  rw [pending_eq_sum, pending_eq_sum]
  simp only [hfinish, pendingCount]
  cases p <;> simp [Port.all] <;> omega

/-! ## The events that change the mail -/

/-- A letter as a successful delivery step makes it (R60): every record is PENDING. -/
structure Letter.Fresh (v : Letter) : Prop where
  outcomes : v.delivery.outcomes = v.delivery.accepted.map fun p => (p, .pending)
  readers : v.delivery.readers = v.delivery.accepted.length
  nodup : v.delivery.accepted.Nodup
  divided : v.Divided

/-- What one event can do to the mail: nothing, a removal of a head entry (R79), a delivery (R60), or a reset (R145,
R147). -/
inductive MailStep (M : Mail) : Mail → Prop
  | same : MailStep M M
  | removed {p : Port} {l : Lane} {e : Entry} {rest : List Entry} {i : DescIndex} {v : Letter} {o : ReaderOutcome}
      (hv : M.letter i = some v) (hq : M.entries p l = e :: rest) (he : e.handle = v.handle i) (ho : o ≠ .pending) :
      MailStep M ((M.dropHead p l).setLetter i (v.finished p o))
  | delivered {i : DescIndex} {v : Letter} {e : Entry} (hi : M.letter i = none) (he : e.handle = v.handle i)
      (hv : v.Fresh) : MailStep M ((M.append e v.message.lane v.delivery.accepted).setLetter i (some v))
  | cleared : MailStep M Mail.empty

theorem lawful_empty : Mail.empty.Lawful where
  named p l e he := by cases he
  matched i v hv := by cases hv
  divided i v hv := by cases hv

/-! ### A removal keeps the laws -/

section Removal

variable {M : Mail} {p : Port} {l : Lane} {e : Entry} {rest : List Entry} {i : DescIndex} {v : Letter}

/-- The head entry of a queue is the one that the letter's PENDING record of that port owes. -/
theorem owed_of_head (hM : M.Matched) (hv : M.letter i = some v) (hq : M.entries p l = e :: rest)
    (he : e.handle = v.handle i) : l = v.message.lane ∧ pendingCount v.delivery p = 1 := by
  obtain ⟨hcounted, howed⟩ := hM i v hv
  have honce := hcounted.once p
  have hcount := howed p l
  have hhead : 1 ≤ M.count p l (v.handle i) := by simp [Mail.count, hq, he]
  unfold Letter.owed at hcount
  split at hcount
  · next hl => exact ⟨hl, by omega⟩
  · omega

/-- Entries that carry the handle of another descriptor are all kept. -/
theorem count_dropHead_of_ne (hq : M.entries p l = e :: rest) (he : e.handle = v.handle i) {w : Letter} {j : DescIndex}
    (hj : j ≠ i) (q : Port) (k : Lane) : (M.dropHead p l).count q k (w.handle j) = M.count q k (w.handle j) := by
  have hcount := Mail.count_dropHead hq q k (w.handle j)
  have hne : e.handle ≠ w.handle j := fun h => hj (index_eq_of_handle_eq (h.symm.trans he))
  simpa [hne] using hcount

/-- After the removal each queue holds what it owes the finished delivery. -/
theorem count_dropHead_self (hM : M.Matched) (hv : M.letter i = some v) (hq : M.entries p l = e :: rest)
    (he : e.handle = v.handle i) {o : ReaderOutcome} (ho : o ≠ .pending) (q : Port) (k : Lane) :
    (M.dropHead p l).count q k (v.handle i)
      = if k = v.message.lane then pendingCount (v.delivery.finish p o) q else 0 := by
  obtain ⟨hl, hone⟩ := owed_of_head hM hv hq he
  have hcount := Mail.count_dropHead hq q k (v.handle i)
  rw [(hM i v hv).2 q k, Letter.owed] at hcount
  rw [pendingCount_finish _ _ _ ho]
  subst hl
  by_cases hk : k = v.message.lane
  · by_cases hqp : q = p
    · subst hqp
      simpa [hk, he, hone] using hcount
    · simpa [hk, hqp] using hcount
  · simpa [hk] using hcount

/-- A finished delivery that keeps readers stays counted. -/
theorem counted_finish (hv : v.Counted) (hone : pendingCount v.delivery p = 1) {o : ReaderOutcome} (ho : o ≠ .pending)
    (hr : (v.delivery.finish p o).readers ≠ 0) : ({ v with delivery := v.delivery.finish p o } : Letter).Counted where
  pos := Nat.one_le_iff_ne_zero.mpr hr
  readers := by
    have hpending := pending_finish v.delivery p ho
    have hreaders := hv.readers
    change v.delivery.readers - 1 = _
    dsimp only
    omega
  records := (finish_records v.delivery p o).trans hv.records
  once q := by
    dsimp only
    rw [pendingCount_finish _ _ _ ho]
    split
    · exact Nat.zero_le 1
    · exact hv.once q

/-- A finished delivery without readers has no PENDING record. -/
theorem pendingCount_finish_of_last (hv : v.Counted) (hone : pendingCount v.delivery p = 1) {o : ReaderOutcome}
    (ho : o ≠ .pending) (hr : (v.delivery.finish p o).readers = 0) (q : Port) :
    pendingCount (v.delivery.finish p o) q = 0 := by
  have hpending := pending_finish v.delivery p ho
  have hreaders := hv.readers
  change v.delivery.readers - 1 = 0 at hr
  have hnone : ((v.delivery.finish p o).outcomes.countP fun r => decide (r.2 = .pending)) = 0 := by omega
  rw [pendingCount, List.countP_eq_zero]
  rw [List.countP_eq_zero] at hnone
  intro r hr' hq
  refine hnone r hr' ?_
  rw [of_decide_eq_true hq]
  rfl

/-- An entry that a removal leaves under the letter's handle is owed to a PENDING record, so the letter is still there. -/
theorem named_removed (hM : M.Lawful) (hv : M.letter i = some v) (hq : M.entries p l = e :: rest)
    (he : e.handle = v.handle i) {o : ReaderOutcome} (ho : o ≠ .pending) :
    ((M.dropHead p l).setLetter i (v.finished p o)).Named := by
  intro q k e' hkept
  change e' ∈ (M.dropHead p l).entries q k at hkept
  have hmem : e' ∈ M.entries q k := by
    dsimp only [Mail.dropHead] at hkept
    split at hkept
    · exact List.mem_of_mem_tail hkept
    · exact hkept
  obtain ⟨j, w, hw, hhandle⟩ := hM.named q k e' hmem
  by_cases hj : j = i
  · subst hj
    obtain rfl : v = w := Option.some.inj (hv.symm.trans hw)
    have hreaders : (v.delivery.finish p o).readers ≠ 0 := fun hr => by
      obtain ⟨hcounted, -⟩ := hM.matched j v hv
      obtain ⟨-, hone⟩ := owed_of_head hM.matched hv hq he
      have hcount := count_dropHead_self hM.matched hv hq he ho q k
      rw [pendingCount_finish_of_last hcounted hone ho hr, ite_self, Mail.count, List.countP_eq_zero] at hcount
      exact hcount e' hkept (decide_eq_true hhandle)
    exact ⟨j, _, (Mail.setLetter_letter_self _ _ _).trans (Letter.finished_eq_some.mpr ⟨hreaders, rfl⟩), hhandle⟩
  · exact ⟨j, w, (Mail.setLetter_letter_ne _ _ hj).trans hw, hhandle⟩

theorem matched_removed (hM : M.Matched) (hv : M.letter i = some v) (hq : M.entries p l = e :: rest)
    (he : e.handle = v.handle i) {o : ReaderOutcome} (ho : o ≠ .pending) :
    ((M.dropHead p l).setLetter i (v.finished p o)).Matched := by
  intro j w hw
  by_cases hj : j = i
  · subst hj
    rw [Mail.setLetter_letter_self] at hw
    obtain ⟨hr, rfl⟩ := Letter.finished_eq_some.mp hw
    obtain ⟨hcounted, -⟩ := hM j v hv
    obtain ⟨-, hone⟩ := owed_of_head hM hv hq he
    exact ⟨counted_finish hcounted hone ho hr, count_dropHead_self hM hv hq he ho⟩
  · rw [Mail.setLetter_letter_ne _ _ hj] at hw
    obtain ⟨hcounted, howed⟩ := hM j w hw
    exact ⟨hcounted, fun q k => (count_dropHead_of_ne hq he hj q k).trans (howed q k)⟩

/-- A removal leaves the accepted and refusal sets of every letter. -/
theorem divided_removed (hM : ∀ j w, M.letter j = some w → w.Divided) (hv : M.letter i = some v) {o : ReaderOutcome} :
    ∀ j w, ((M.dropHead p l).setLetter i (v.finished p o)).letter j = some w → w.Divided := by
  intro j w hw
  by_cases hj : j = i
  · subst hj
    rw [Mail.setLetter_letter_self] at hw
    obtain ⟨-, rfl⟩ := Letter.finished_eq_some.mp hw
    exact hM j v hv
  · rw [Mail.setLetter_letter_ne _ _ hj] at hw
    exact hM j w hw

end Removal

/-! ### A delivery keeps the laws -/

section Delivering

variable {M : Mail} {i : DescIndex} {v : Letter} {e : Entry}

/-- A fresh letter has a PENDING record for each accepted destination. -/
theorem Letter.Fresh.pendingCount_eq (hv : v.Fresh) (p : Port) :
    pendingCount v.delivery p = if p ∈ v.delivery.accepted then 1 else 0 := by
  have hcount : pendingCount v.delivery p = v.delivery.accepted.count p := by
    rw [pendingCount, hv.outcomes, List.countP_map, List.count]
    refine List.countP_congr fun q _ => ?_
    simp
  rw [hcount, hv.nodup.count]

theorem Letter.Fresh.counted (hv : v.Fresh) : v.Counted where
  pos := by
    rw [hv.readers]
    exact List.length_pos_iff.mpr hv.divided.2.1
  readers := by simp [hv.readers, hv.outcomes, List.countP_map, Function.comp_def]
  records := by simp [hv.outcomes, Function.comp_def]
  once p := by
    rw [hv.pendingCount_eq]
    split <;> omega

/-- No entry carries the handle of a descriptor that is not LIVE. -/
theorem count_eq_zero (hM : M.Named) (hi : M.letter i = none) (p : Port) (l : Lane) : M.count p l (v.handle i) = 0 := by
  rw [Mail.count, List.countP_eq_zero]
  intro e he hhandle
  obtain ⟨j, w, hw, hj⟩ := hM p l e he
  obtain rfl : i = j := index_eq_of_handle_eq ((of_decide_eq_true hhandle).symm.trans hj)
  rw [hi] at hw
  cases hw

theorem named_delivered (hM : M.Named) (hi : M.letter i = none) (he : e.handle = v.handle i) :
    ((M.append e v.message.lane v.delivery.accepted).setLetter i (some v)).Named := by
  intro q k e' hmem
  have hcases : e' ∈ M.entries q k ∨ e' = e := by
    dsimp only [Mail.setLetter, Mail.append] at hmem
    split at hmem
    · simpa using hmem
    · exact .inl hmem
  rcases hcases with hold | rfl
  · obtain ⟨j, w, hw, hhandle⟩ := hM q k e' hold
    have hj : j ≠ i := by
      rintro rfl
      rw [hi] at hw
      cases hw
    exact ⟨j, w, (Mail.setLetter_letter_ne _ _ hj).trans hw, hhandle⟩
  · exact ⟨i, v, Mail.setLetter_letter_self _ _ _, he⟩

/-- The new entries are those that the fresh letter is owed, for before the delivery none carries its handle. -/
theorem matched_delivered (hM : M.Lawful) (hi : M.letter i = none) (he : e.handle = v.handle i) (hv : v.Fresh) :
    ((M.append e v.message.lane v.delivery.accepted).setLetter i (some v)).Matched := by
  intro j w hw
  by_cases hj : j = i
  · subst hj
    rw [Mail.setLetter_letter_self] at hw
    cases hw
    refine ⟨hv.counted, fun q k => ?_⟩
    rw [Mail.count_setLetter, Mail.count_append, count_eq_zero hM.named hi, Letter.owed, hv.pendingCount_eq]
    by_cases hk : k = v.message.lane <;> simp [hk, he]
  · rw [Mail.setLetter_letter_ne _ _ hj] at hw
    obtain ⟨hcounted, howed⟩ := hM.matched j w hw
    have hne : e.handle ≠ w.handle j := fun h => hj (index_eq_of_handle_eq (h.symm.trans he))
    refine ⟨hcounted, fun q k => ?_⟩
    rw [Mail.count_setLetter, Mail.count_append, howed]
    simp [hne]

theorem divided_delivered (hM : ∀ j w, M.letter j = some w → w.Divided) (hv : v.Divided) {ports : List Port}
    {l : Lane} : ∀ j w, ((M.append e l ports).setLetter i (some v)).letter j = some w → w.Divided := by
  intro j w hw
  by_cases hj : j = i
  · subst hj
    rw [Mail.setLetter_letter_self] at hw
    cases hw
    exact hv
  · rw [Mail.setLetter_letter_ne _ _ hj] at hw
    exact hM j w hw

end Delivering

/-- Every event of the mail keeps the laws. -/
theorem lawful_step {M N : Mail} (h : MailStep M N) (hM : M.Lawful) : N.Lawful := by
  cases h with
  | same => exact hM
  | removed hv hq he ho =>
    exact ⟨named_removed hM hv hq he ho, matched_removed hM.matched hv hq he ho, divided_removed hM.divided hv⟩
  | delivered hi he hv =>
    exact ⟨named_delivered hM.named hi he, matched_delivered hM hi he hv, divided_delivered hM.divided hv.divided⟩
  | cleared => exact lawful_empty

/-! ## What each row does to the mail -/

/-- What an event answers, if it answers a next state, has the same mail. -/
def Quiet (s : State) (o : StepOutcome) : Prop := ∀ t, o = .next t → mail t = mail s

@[simp] theorem quiet_next {s t : State} : Quiet s (.next t) ↔ mail t = mail s := by
  refine ⟨fun h => h t rfl, ?_⟩
  rintro h _ ⟨⟩
  exact h

@[simp] theorem quiet_fault (s : State) (f : Fault) : Quiet s (.fault f) := by
  intro t h
  cases h

@[simp] theorem quiet_refuse {s t : State} {p : Port} {r : Result} : Quiet s (refuse p r t) ↔ mail t = mail s := by
  rw [refuse_eq, quiet_next, mail_answer]

/-- What an event answers, if it answers a next state, is reached by one event of the mail. The messages of the table are
well composed before it. -/
def Mailed (s : State) (o : StepOutcome) : Prop := MessageLaw s → ∀ t, o = .next t → MailStep (mail s) (mail t)

theorem Quiet.mailed {s : State} {o : StepOutcome} (h : Quiet s o) : Mailed s o := fun _ t ht => by
  rw [h t ht]
  exact .same

theorem Mailed.next {s t : State} (h : MailStep (mail s) (mail t)) : Mailed s (.next t) := by
  rintro - _ ⟨⟩
  exact h

theorem Mailed.unchanged (s : State) : Mailed s (.next s) := .next .same

theorem Mailed.fault (s : State) (f : Fault) : Mailed s (.fault f) := (quiet_fault s f).mailed

theorem Mailed.refused (s : State) (p : Port) (r : Result) : Mailed s (refuse p r s) := (quiet_refuse.mpr rfl).mailed

/-- A change that the books and the mail do not see may come before an event. -/
theorem Mailed.after {s t : State} {o : StepOutcome} (hb : SameBooks s t) (hm : mail t = mail s) (ho : Mailed t o) :
    Mailed s o := fun hs u hu => by
  rw [← hm]
  exact ho (messageLaw_step (.same hb) hs) u hu

/-- A command row is a frame that leaves the mail alone, and the taking of its command (R175, R178). -/
theorem Mailed.issue {p : Port} {code : Byte} {args : List Byte} {body : List Byte → State → StepOutcome} (s : State)
    (h : ∀ as t, Mailed t (body as t)) : Mailed s (issue p code args body s) := by
  have taken : ∀ t, Mailed t (takeCommand p (CommandFrame.of code args) body t) := fun t => by
    unfold takeCommand
    split
    · exact .after (.renewLease t p) (mail_renewLease t p) (h _ _)
    · exact .refused t p _
  rcases issue_cases p code args body s with e | e | ⟨t, rfl | rfl, -, e⟩ <;> rw [e]
  · exact .unchanged s
  · exact (quiet_next.mpr (mail_commandFrame s p _)).mailed
  · exact taken t
  · exact .after (.commandFrame s p _) (mail_commandFrame s p _) (taken _)

/-! ### Commands that leave the mail alone: every branch answers, refuses or stops -/

theorem quiet_attachBody (p : Port) (args : List Byte) (s : State) : Quiet s (attachBody p args s) := by
  have attached : mail (s.modifyPort p PortState.attach) = mail s := mail_modifyPort s p PortState.attach_inbound
  unfold attachBody
  split <;> simp [attached]

theorem quiet_detachBody (p : Port) (args : List Byte) (s : State) : Quiet s (detachBody p args s) := by
  unfold detachBody
  split <;> simp

theorem quiet_forceDetachBody (p : Port) (args : List Byte) (s : State) : Quiet s (forceDetachBody p args s) := by
  unfold forceDetachBody
  repeat' split
  all_goals simp

theorem quiet_openBody (p : Port) (args : List Byte) (s : State) : Quiet s (openBody p args s) := by
  unfold openBody
  repeat' split
  all_goals simp [*]

theorem quiet_writeBody (p : Port) (args : List Byte) (s : State) : Quiet s (writeBody p args s) := by
  unfold writeBody
  repeat' split
  all_goals simp

theorem quiet_abandonBody (p : Port) (args : List Byte) (s : State) : Quiet s (abandonBody p args s) := by
  unfold abandonBody
  repeat' split
  all_goals simp

theorem quiet_peekBody (p : Port) (args : List Byte) (s : State) : Quiet s (peekBody p args s) := by
  unfold peekBody
  repeat' split
  all_goals simp

theorem quiet_noticesBody (p : Port) (args : List Byte) (s : State) : Quiet s (noticesBody p args s) := by
  unfold noticesBody
  repeat' split
  all_goals simp

theorem quiet_accountBody (p : Port) (args : List Byte) (s : State) : Quiet s (accountBody p args s) := by
  unfold accountBody
  split <;> simp

theorem quiet_metersBody (p : Port) (args : List Byte) (s : State) : Quiet s (metersBody p args s) := by
  unfold metersBody
  dsimp only
  repeat' split
  all_goals simp

theorem quiet_claimBody (p : Port) (args : List Byte) (s : State) : Quiet s (claimBody p args s) := by
  unfold claimBody
  repeat' split
  all_goals simp

theorem quiet_releaseBody (p : Port) (args : List Byte) (s : State) : Quiet s (releaseBody p args s) := by
  unfold releaseBody
  split <;> simp

theorem quiet_configureBody (p : Port) (args : List Byte) (s : State) : Quiet s (configureBody p args s) := by
  unfold configureBody
  dsimp only
  repeat' split
  all_goals simp

theorem quiet_configReadBody (p : Port) (args : List Byte) (s : State) : Quiet s (configReadBody p args s) := by
  unfold configReadBody
  repeat' split
  all_goals simp

/-- A READ changes words of the pool and perhaps the fault mark of its message (R17, R36). -/
theorem quiet_readTaken {s : State} {p : Port} {l : Lane} {hd : Head} (h : s.head p l = some (some hd))
    (offset count : Nat) (addresses : List Nat) : Quiet s (readTaken p hd offset count addresses s) := by
  obtain ⟨-, hlive⟩ := State.head_eq_some h
  obtain ⟨hstate, -⟩ := State.liveEntry_eq_some.mp hlive
  unfold readTaken
  dsimp only
  split
  · rw [quiet_next, mail_answer]
    exact mail_setFault hstate
  · simp

theorem quiet_readBody (p : Port) (args : List Byte) (s : State) : Quiet s (readBody p args s) := by
  have refused : ∀ r, Quiet s (refuse p r s) := fun r => quiet_refuse.mpr rfl
  unfold readBody
  split
  · split
    · exact refused _
    · split
      · exact refused _
      · split
        · exact refused _
        · split
          · exact refused _
          · split
            · next hd h =>
              split
              · exact refused _
              · split
                · exact quiet_fault s _
                · exact quiet_readTaken h _ _ _
            · exact quiet_fault s _
  · exact refused _

/-! ### Events of the hub that leave the mail alone -/

theorem quiet_detachAbandonment (p : Port) (i : DescIndex) (s : State) : Quiet s (execDetachAbandonment p i s) := by
  unfold execDetachAbandonment
  repeat' split
  all_goals simp

theorem quiet_noticeQueueEmptying (p : Port) (s : State) : Quiet s (execNoticeQueueEmptying p s) := by
  unfold execNoticeQueueEmptying
  split <;> simp

theorem quiet_waiterRemoval (p : Port) (s : State) : Quiet s (execWaiterRemoval p s) := by
  unfold execWaiterRemoval
  split <;> simp

theorem quiet_detachCompletion (p : Port) (s : State) : Quiet s (execDetachCompletion p s) := by
  unfold execDetachCompletion
  dsimp only
  repeat' split
  all_goals simp

theorem quiet_refill (p : Port) (s : State) : Quiet s (execRefill p s) := by
  unfold execRefill
  split <;> simp

theorem quiet_samplingEvent (p : Port) (s : State) : Quiet s (execSamplingEvent p s) := by
  have sampled : ∀ x : PortState, x.sample.inbound = x.inbound := fun x => by
    unfold PortState.sample
    dsimp only
    split <;> rfl
  unfold execSamplingEvent
  split
  · simp
  · exact quiet_next.mpr (mail_modifyPort s p sampled)

theorem quiet_leaseDecrement (s : State) : Quiet s (execLeaseDecrement s) := by
  unfold execLeaseDecrement
  split <;> simp

theorem quiet_claimExpiry (s : State) : Quiet s (execClaimExpiry s) := by
  unfold execClaimExpiry
  split <;> simp

/-- A mark begins examination series, which are no part of the mail (R99). -/
theorem quiet_millisecondMark (s : State) : Quiet s (execMillisecondMark s) := by
  unfold execMillisecondMark
  split
  · refine quiet_next.mpr (mail_eq_of (fun p => ?_) rfl)
    funext l
    cases p <;> cases l <;> rfl
  · simp

theorem quiet_shortFrame (p : Port) (bytes : List Byte) (s : State) : Quiet s (execShortFrame p bytes s) := by
  unfold execShortFrame
  repeat' split
  all_goals simp

theorem quiet_storageUpset (c : CellIndex) (w : Fin 8) (wordBits : Word) (codeBits : BitVec 7) (s : State) :
    Quiet s (execStorageUpset c w wordBits codeBits s) := quiet_next.mpr (mail_with_pool s _)

theorem quiet_csNFall (p : Port) (s : State) : Quiet s (execCsNFall p s) :=
  quiet_next.mpr (mail_modifyPort s p fun _ => by rfl)

/-! ### Deliveries -/

theorem mem_messages {s : State} {i : DescIndex} {m : Message} (h : (s.desc i).state.message? = some m) :
    m ∈ messages s :=
  List.mem_filterMap.mpr ⟨s.desc i, Vector.mem_toList_iff.mpr (Vector.getElem_mem _), h⟩

/-- The three verdicts divide the destinations (R58). -/
theorem perm_verdicts (f : Port → Verdict) (ports : List Port) :
    (ports.filter (fun d => decide (f d = .accept)) ++ ports.filter (fun d => decide (f d = .refusedOffline))
      ++ ports.filter fun d => decide (f d = .refusedFull)).Perm ports := by
  induction ports with
  | nil => exact .refl _
  | cons d rest ih =>
    cases h : f d
    · simpa [h] using ih
    · simpa [h] using (List.perm_middle.append_right _).trans (ih.cons d)
    · simp only [h, List.filter_cons, reduceCtorEq, decide_false, decide_true, Bool.false_eq_true, if_true, if_false]
      exact List.perm_middle.trans (ih.cons d)

/-- A delivery step that succeeds accepts at a destination, and in mode ALL refuses none (R59). -/
theorem divided_of_succeeds {s : State} {i : DescIndex} {m : Message} (hm : m.destinations ≠ [])
    (hj : (s.judge m).succeeds m.mode = true) : (liveLetter s i m (s.judge m)).Divided := by
  have hperm : ((s.judge m).accepting ++ (s.judge m).offline ++ (s.judge m).full).Perm m.destinations :=
    perm_verdicts (s.verdict m.lane) m.destinations
  unfold Judgement.succeeds at hj
  split at hj
  · next hmode =>
    obtain ⟨hoff, hfull⟩ := of_decide_eq_true hj
    refine ⟨hperm, fun hnone => hm ?_, fun _ => ⟨hoff, hfull⟩⟩
    change (s.judge m).accepting = [] at hnone
    rw [hnone, hoff, hfull] at hperm
    exact hperm.nil_eq.symm
  · next hmode =>
    refine ⟨hperm, of_decide_eq_true hj, fun hall => ?_⟩
    change m.mode = .all at hall
    rw [hmode] at hall
    cases hall

/-- A successful delivery step makes a fresh letter of a well composed message (R60). -/
theorem fresh_of_succeeds {s : State} {i : DescIndex} {m : Message} (hm : WellComposed m)
    (hj : (s.judge m).succeeds m.mode = true) : (liveLetter s i m (s.judge m)).Fresh := by
  obtain ⟨-, -, -, -, hnonempty, -, hports⟩ := hm
  refine ⟨rfl, rfl, List.Nodup.filter _ ?_, divided_of_succeeds hnonempty hj⟩
  rw [hports]
  exact Port.nodup_all.filter _

/-- A successful delivery step of an undelivered message is a delivery of the mail. -/
theorem mailStep_deliverOk {s : State} {i : DescIndex} {m : Message} (hs : MessageLaw s)
    (hi : (s.desc i).state.undelivered? = some m) (hj : (s.judge m).succeeds m.mode = true) :
    MailStep (mail s) (mail (s.deliverOk i m (s.judge m))) := by
  have hmem : m ∈ messages s := mem_messages (i := i) <| by
    cases hstate : (s.desc i).state <;> rw [hstate] at hi <;> cases hi <;> rfl
  rw [mail_deliverOk]
  exact .delivered (letterOf_undelivered hi) rfl (fresh_of_succeeds ((messageLaw_iff s).mp hs m hmem) hj)

theorem mailed_postDecision {s : State} {p : Port} {i : DescIndex} {m : Message}
    (hi : (s.desc i).state.undelivered? = some m) : Mailed s (postDecision p i m s) := by
  unfold postDecision postNow
  dsimp only
  split
  · split
    · next hj =>
      rintro hs _ ⟨⟩
      simpa using mailStep_deliverOk hs hi hj
    · exact Quiet.mailed (by simp)
  · split
    · exact Quiet.mailed (by simp [mail_holdPost p hi])
    · exact .refused s p _

theorem mailed_postBody (p : Port) (args : List Byte) (s : State) : Mailed s (postBody p args s) := by
  unfold postBody
  split
  · split
    · exact .refused s p _
    · split
      · exact .refused s p _
      · next m h =>
        obtain ⟨hstate, -⟩ := State.sourceSide_eq_ok.mp h
        exact mailed_postDecision (by rw [hstate]; rfl)
      · exact .refused s p _
  · exact .refused s p _

theorem undelivered_of_heldMessage {s : State} {h : Handle} {m : Message} (hm : s.heldMessage h = some m) :
    (s.desc (handleIndex h)).state.undelivered? = some m := by
  unfold State.heldMessage at hm
  dsimp only at hm
  split at hm
  · next hstate =>
    split at hm
    · cases hm
      rw [hstate]
      rfl
    · cases hm
  · cases hm

/-- A taken release delivers its message, or leaves the mail (R73, R74). -/
theorem mailStep_runRelease {s : State} {p : Port} {h : Handle} {m : Message} (hs : MessageLaw s)
    (hi : (s.desc (handleIndex h)).state.undelivered? = some m) : MailStep (mail s) (mail (s.runRelease p h m)) := by
  unfold State.runRelease
  dsimp only
  split
  · next hj => simpa using mailStep_deliverOk hs hi hj
  · simp only [mail_offer, mail_emptySlot, mail_deliverFail, mail_setDesc]
    rw [show letterOf _ = none from letterOf_undelivered (m := m) rfl, setLetter_of_undelivered hi]
    exact .same

theorem mailed_releaseOfHeldPost (p : Port) (s : State) : Mailed s (execReleaseOfHeldPost p s) := by
  unfold execReleaseOfHeldPost
  split
  · exact .unchanged s
  · split
    · exact .unchanged s
    · split
      · exact .fault s _
      · next m hm =>
        split
        · rintro hs _ ⟨⟩
          exact mailStep_runRelease hs (undelivered_of_heldMessage hm)
        · exact Quiet.mailed (by simp [State.endRelease])

/-! ### Removals -/

theorem mailStep_removeHead {s : State} {p : Port} {l : Lane} {hd : Head} (h : s.head p l = some (some hd))
    {o : ReaderOutcome} (ho : o ≠ .pending) : MailStep (mail s) (mail (s.removeHead p l hd o)) := by
  obtain ⟨⟨rest, hq⟩, hlive⟩ := State.head_eq_some h
  obtain ⟨hstate, hgen⟩ := State.liveEntry_eq_some.mp hlive
  rw [mail_removeHead rfl]
  exact .removed (letterOf_live hstate) hq (handle_eq_iff.mpr ⟨rfl, hgen.symm⟩) ho

theorem mailed_doneBody (p : Port) (args : List Byte) (s : State) : Mailed s (doneBody p args s) := by
  unfold doneBody
  split
  · split
    · exact .refused s p _
    · split
      · exact .refused s p _
      · split
        · next hd h =>
          have removed := mailStep_removeHead h (o := .consumed) (by decide)
          exact .next (by simpa using removed)
        · exact .fault s _
  · exact .refused s p _

theorem mailStep_expire {s : State} {p : Port} {l : Lane} {hd : Head} (h : s.head p l = some (some hd)) :
    MailStep (mail s) (mail (s.expire p l hd)) := by
  have removed := mailStep_removeHead h (o := .expired) (by decide)
  simpa [State.expire] using removed

theorem mailed_examination (p : Port) (l : Lane) (s : State) : Mailed s (execExamination p l s) := by
  have ended : Mailed s (.next (s.endSeries p l)) := Quiet.mailed (by simp)
  unfold execExamination
  split
  · split
    · exact ended
    · split
      · exact .fault s _
      · exact ended
      · next hd h =>
        split
        · exact .next (mailStep_expire h)
        · exact ended
  · exact .unchanged s

theorem mailed_expiry (p : Port) (l : Lane) (s : State) : Mailed s (execExpiry p l s) := by
  unfold execExpiry
  split
  · split
    · exact .fault s _
    · exact .unchanged s
    · next hd h =>
      split
      · exact .next (mailStep_expire h)
      · exact .unchanged s
  · exact .unchanged s

theorem mailed_flush (p : Port) (l : Lane) (s : State) : Mailed s (execFlush p l s) := by
  unfold execFlush
  split
  · split
    · exact .fault s _
    · exact .unchanged s
    · next hd h => exact .next (mailStep_removeHead h (by decide))
  · exact .unchanged s

/-! ### Resets -/

/-- A state whose queues are empty and whose descriptors are FREE has no mail. -/
theorem mail_eq_empty {s : State} (hq : ∀ p l, entriesOf (s.port p) l = []) (hd : ∀ i, (s.desc i).state = .free) :
    mail s = Mail.empty := by
  have hletter : ∀ i, letterOf (s.desc i) = none := fun i => letterOf_eq_none fun m dl h => by
    rw [hd] at h
    cases h
  simp only [mail, hq, hletter, Mail.empty]

theorem MailStep.of_empty {M : Mail} {t : State} (h : mail t = Mail.empty) : MailStep M (mail t) := h ▸ .cleared

theorem mail_reset : mail State.reset = Mail.empty :=
  mail_eq_empty (fun p l => by cases p <;> cases l <;> rfl) fun i => by simp [State.desc, State.reset]

theorem mail_hubReset (s : State) : mail s.hubReset = Mail.empty := by
  refine mail_eq_empty (fun p l => by cases p <;> cases l <;> rfl) fun i => ?_
  have hdesc : s.hubReset.desc i = (s.desc i).hubReset := by simp [State.desc, State.hubReset]
  rw [hdesc]
  unfold Descriptor.hubReset
  split
  · assumption
  · rfl

theorem mailed_hubResetBody (p : Port) (args : List Byte) (s : State) : Mailed s (hubResetBody p args s) := by
  unfold hubResetBody
  split
  · exact .refused s p _
  · refine .next ?_
    rw [mail_answer]
    exact .of_empty (mail_hubReset s)

theorem mailed_powerOnReset (s : State) : Mailed s (execPowerOnReset s) :=
  .next (.of_empty (mail_eq_empty (fun p l => by cases p <;> cases l <;> rfl) fun i => by simp [State.desc, State.reset]))

/-! ### Every row, and the passage of hub time -/

/-- A command whose body leaves the mail alone. -/
theorem Mailed.issue_quiet {p : Port} {code : Byte} {args : List Byte} {body : List Byte → State → StepOutcome}
    (s : State) (h : ∀ as t, Quiet t (body as t)) : Mailed s (Machine.issue p code args body s) :=
  .issue s fun as t => (h as t).mailed

/-- Every row of the table is one event of the mail. -/
theorem mailed_exec (c : Instr) (s : State) : Mailed s (exec c s) := by
  cases c with
  | attach p args => exact .issue_quiet s (quiet_attachBody p)
  | detach p args => exact .issue_quiet s (quiet_detachBody p)
  | forceDetach p args => exact .issue_quiet s (quiet_forceDetachBody p)
  | openMessage p args => exact .issue_quiet s (quiet_openBody p)
  | write p args => exact .issue_quiet s (quiet_writeBody p)
  | abandon p args => exact .issue_quiet s (quiet_abandonBody p)
  | post p args => exact .issue s (mailed_postBody p)
  | peek p args => exact .issue_quiet s (quiet_peekBody p)
  | read p args => exact .issue_quiet s (quiet_readBody p)
  | done p args => exact .issue s (mailed_doneBody p)
  | notices p args => exact .issue_quiet s (quiet_noticesBody p)
  | account p args => exact .issue_quiet s (quiet_accountBody p)
  | meters p args => exact .issue_quiet s (quiet_metersBody p)
  | claim p args => exact .issue_quiet s (quiet_claimBody p)
  | release p args => exact .issue_quiet s (quiet_releaseBody p)
  | configure p args => exact .issue_quiet s (quiet_configureBody p)
  | configRead p args => exact .issue_quiet s (quiet_configReadBody p)
  | hubReset p args => exact .issue s (mailed_hubResetBody p)
  | commandFrame p bytes => exact (quiet_next.mpr (mail_commandFrame s p bytes)).mailed
  | shortFrame p bytes => exact (quiet_shortFrame p bytes s).mailed
  | fetch p clocked => exact (quiet_next.mpr (mail_fetchFrame s p clocked)).mailed
  | regReadFrameCut p => exact (quiet_next.mpr (mail_regReadFrame s p [])).mailed
  | regWrite p bytes => exact (quiet_next.mpr (mail_regFrame s p bytes)).mailed
  | eventFlags p value => exact (quiet_next.mpr (mail_registerFrame s p _ value)).mailed
  | eventEnable p value => exact (quiet_next.mpr (mail_registerFrame s p _ value)).mailed
  | deadlineWrite p lane value => exact (quiet_next.mpr (mail_registerFrame s p _ value)).mailed
  | meterThreshold p value => exact (quiet_next.mpr (mail_registerFrame s p _ value)).mailed
  | powerOnReset => exact mailed_powerOnReset s
  | millisecondMark => exact (quiet_millisecondMark s).mailed
  | examination p lane => exact mailed_examination p lane s
  | expiry p lane => exact mailed_expiry p lane s
  | leaseDecrement => exact (quiet_leaseDecrement s).mailed
  | claimExpiry => exact (quiet_claimExpiry s).mailed
  | samplingEvent p => exact (quiet_samplingEvent p s).mailed
  | refill p => exact (quiet_refill p s).mailed
  | releaseOfHeldPost p => exact mailed_releaseOfHeldPost p s
  | detachAbandonment p index => exact (quiet_detachAbandonment p index s).mailed
  | flush p lane => exact mailed_flush p lane s
  | noticeQueueEmptying p => exact (quiet_noticeQueueEmptying p s).mailed
  | waiterRemoval p => exact (quiet_waiterRemoval p s).mailed
  | detachCompletion p => exact (quiet_detachCompletion p s).mailed
  | storageUpset cell word wordBits codeBits => exact (quiet_storageUpset cell word wordBits codeBits s).mailed
  | unknownCommandCode p code args =>
    change Mailed s (if _ then _ else _)
    split
    · exact .issue s fun _ t => .refused t p _
    · exact .unchanged s
  | csNFall p => exact (quiet_csNFall p s).mailed

theorem quiet_idle (s : State) : Quiet s (idle s) := by
  unfold idle
  split
  · exact quiet_refill _ s
  · split
    · exact quiet_millisecondMark s
    · split
      · exact quiet_leaseDecrement s
      · split
        · exact quiet_samplingEvent _ s
        · split <;> simp

/-- Every step is one event of the mail. -/
theorem step_mailed (s : State) : Mailed s (step s) := by
  unfold step
  split
  · exact (quiet_idle s).mailed
  · next c rest _ =>
    have taken : SameBooks s { s with pending := rest } := .of_table (fun _ => rfl) rfl rfl
    exact .after taken (mail_with_pending s rest) (mailed_exec c _)

/-! ## Readers remaining and the entries that name a message (R91) -/

/-- A LIVE message's readers are one or more, and as many as the entries of all queues that carry its handle. -/
theorem readers_eq_entries {s : State} {i : DescIndex} {m : Message} {d : Delivery} (hs : DeliveryLaw s)
    (hlive : (s.desc i).state = .live m d) :
    1 ≤ d.readers
      ∧ d.readers = (Port.all.map fun p =>
          entryCount s p .urgent (s.handleAt i) + entryCount s p .routine (s.handleAt i)).sum := by
  obtain ⟨hcounted, howed⟩ := (deliveryLaw_iff s).mp hs i _ (letterOf_live hlive)
  have hentries : ∀ p, entryCount s p .urgent (s.handleAt i) + entryCount s p .routine (s.handleAt i)
      = pendingCount d p := fun p => by
    refine (congrArg₂ (· + ·) (howed p .urgent) (howed p .routine)).trans ?_
    cases hl : m.lane <;> simp [Letter.owed, unmarked, hl]
  refine ⟨hcounted.pos, hcounted.readers.trans ?_⟩
  simp only [hentries]
  exact pending_eq_sum d.outcomes

/-- Settles O58: every step is one event of the mail, and each of them keeps the laws; the entries that name a LIVE
message are then as many as its PENDING records. -/
theorem stepKeepsDeliveries : Obligations.StepKeepsDeliveries := by
  obtain ⟨hentry, hdelivery, hsplit⟩ := (lawful_iff State.reset).mpr (mail_reset ▸ lawful_empty)
  refine ⟨hentry, hdelivery, hsplit, fun s t hstep hmessage he hd hp => ?_, fun s i m d => readers_eq_entries⟩
  exact (lawful_iff t).mpr (lawful_step (step_mailed s hmessage t hstep) ((lawful_iff s).mp ⟨he, hd, hp⟩))

end Deliveries
end Sys2Proof
end

section
/-! PROOFS. Port sessions: what ATTACH does to the hub (chapter 8). -/

namespace Sys2Proof
namespace Sessions

open Sys2Proof.Machine Sys2Proof.Safety

/-- The hub after an OFFLINE port's ATTACH (R131): its session starts, the other ATTACHED ports are told, and its new epoch is
its response. -/
def sessionStarted (s : State) (p : Port) : State :=
  ((s.modifyPort p PortState.attach).announcePeerChange p).answer p .ok [(s.port p).epoch + 1]

/-! ## ATTACH by the session state of its port -/

/-- PEER_CHANGE goes to the other ports alone. -/
theorem announcePeerChange_port_self (s : State) (p : Port) : (s.announcePeerChange p).port p = s.port p := by
  simp [State.announcePeerChange]

theorem attachBody_of_offline {s : State} {p : Port} (h : (s.port p).session = .offline) (args : List Byte) :
    attachBody p args s = .next (sessionStarted s p) := by
  simp [attachBody, h, sessionStarted, announcePeerChange_port_self, PortState.attach]

theorem attachBody_of_attached {s : State} {p : Port} (h : (s.port p).session = .attached) (args : List Byte) :
    attachBody p args s = refuse p .wrongState s := by
  simp [attachBody, h]

/-- An accepted ATTACH goes on from the session step with a holder's lease renewed (R184, R153). -/
theorem exec_attach_taken {s : State} {p : Port} (ha : Accepted s p 0x01#8 []) :
    exec (.attach p []) s = attachBody p [] (s.renewLease p) :=
  issue_taken (attachBody p) ha (by decide)

/-! ## The start of a session, port by port -/

theorem sessionStarted_port_self (s : State) (p : Port) :
    (sessionStarted s p).port p = holding (s.port p).attach .ok [(s.port p).epoch + 1] := by
  simp [sessionStarted, holding, State.answer_port, announcePeerChange_port_self]

theorem sessionStarted_port_ne (s : State) {p q : Port} (hq : q ≠ p) :
    (sessionStarted s p).port q = raisedIf (decide ((s.port q).session = .attached)) .peerChange (s.port q) := by
  simp [sessionStarted, State.answer_port, State.announcePeerChange, State.port_modifyPort_ne, raisedIf, hq]

theorem sessionStarted_onlyPorts (s : State) (p : Port) : OnlyPorts s (sessionStarted s p) := rfl

/-- Settles O24: an accepted ATTACH goes on from the session step, where an OFFLINE port's session starts and an ATTACHED
port is refused. -/
theorem attachStartsSession : Obligations.AttachStartsSession := by
  intro p s ha
  rw [exec_attach_taken ha]
  refine ⟨fun hoffline => ?_, fun hattached => ?_⟩
  · rw [attachBody_of_offline (by simpa using hoffline)]
    refine ⟨_, rfl, sessionStarted_onlyPorts _ p, ?_, fun q hq => ?_⟩
    · rw [sessionStarted_port_self, State.renewLease_port]
      rfl
    · rw [sessionStarted_port_ne _ hq, State.renewLease_port]
  · rw [attachBody_of_attached (by simpa using hattached), refuse_renewed]

end Sessions
end Sys2Proof
end

section
/-! PROOFS. The events of the hub: what an event may do in passing (`Minor`), the few changes that an event makes once
(`Main`), and the laws that every event keeps (R4, R5, R11, R70, R78, R110, R119, R120, R129, R133, R140, R151, R163, R179). -/

namespace Sys2Proof
namespace Events

open Sys2Proof.Machine Sys2Proof.Safety

-- One theorem after the other: side by side their elaborations hold more threads than the sandbox has room for.
set_option Elab.async false

/-! ## The laws of one port -/

/-- The tokens and the interval counter of a port stand in their ranges (R65, R66, R67). -/
abbrev Paced (x : PortState) : Prop :=
  x.tokens ≤ x.config.bucketDepth
    ∧ (x.config.paceInterval = 0 → x.interval = 0 ∧ x.refillDue = false)
    ∧ (1 ≤ x.config.paceInterval → 1 ≤ x.interval ∧ x.interval ≤ x.config.paceInterval)

/-- A queue holds 32 entries at most, and has waiters at 32 alone (R78, R81). -/
abbrev QueueFits (k : InboundQueue) : Prop := k.entries.length ≤ 32 ∧ (k.waiters ≠ [] → k.entries.length = 32)

/-- No latch stands in the position of a state flag (R119). -/
abbrev FlagsFit (x : PortState) : Prop := x.latched &&& latchedPositions = x.latched

/-- No meter passes its greatest value (R163). -/
abbrev MetersFit (m : Meters) : Prop :=
  m.heldCellMs ≤ 4294967295 ∧ m.borrowMs ≤ 4294967295 ∧ m.posts ≤ 4294967295 ∧ m.postedCells ≤ 4294967295
    ∧ m.refusals ≤ 4294967295 ∧ m.consumed ≤ 4294967295 ∧ m.expiries ≤ 4294967295

/-- What an OFFLINE port is without, of the things that it keeps itself (R140). -/
abbrev Emptied (x : PortState) : Prop :=
  x.inbound.urgent.entries = [] ∧ x.inbound.routine.entries = [] ∧ x.notices = [] ∧ x.creditWait = false

/-- The handle in a port's held-post slot (R70). -/
def slotHandle (x : PortState) : Option Handle := x.heldPost.map HeldPost.handle

/-! ## What an event may do in passing -/

/-- A change of one port that keeps every bound of it. -/
structure PortBounded (x y : PortState) : Prop where
  pacing : Paced x → Paced y := by exact id
  queue : ∀ l, QueueFits (x.inbound.get l) → QueueFits (y.inbound.get l) := by exact fun _ => id
  notices : x.notices.length ≤ 16 → y.notices.length ≤ 16 := by exact id
  flags : FlagsFit x → FlagsFit y := by exact id
  meters : MetersFit x.meters → MetersFit y.meters := by exact id

/-- What an event may do to one port in passing, once or more: everything that only named events change stays, no latched
flag and no held response is lost, no detach begins or ends, an OFFLINE port stays empty, and every bound is kept.
`joins` are the ports that may join a waiter set of this port. -/
structure PortMinor (joins : Port → Prop) (x y : PortState) : Prop extends PortBounded x y where
  session : y.session = x.session := by rfl
  epoch : y.epoch = x.epoch := by rfl
  config : y.config = x.config := by rfl
  enables : y.enables = x.enables := by rfl
  deadline : y.deadline = x.deadline := by rfl
  threshold : y.threshold = x.threshold := by rfl
  slot : slotHandle y = slotHandle x := by rfl
  samples : y.samplesDue ≤ x.samplesDue := by exact Nat.le_refl _
  response : ∀ r, x.engine = .held r → y.engine = .held r := by exact fun _ h => h
  carries : ∀ q, y.engine = .detachInFlight q ↔ x.engine = .detachInFlight q := by exact fun _ => .rfl
  shows : ∀ f, x.shows f = true → y.shows f = true := by exact fun _ h => h
  emptied : x.session = .offline → Emptied x → Emptied y := by exact fun _ h => h
  waiters : ∀ p l, p ∈ (y.inbound.get l).waiters → p ∈ (x.inbound.get l).waiters ∨ joins p := by exact fun _ _ => .inl

theorem PortBounded.trans {x y z : PortState} (h : PortBounded x y) (k : PortBounded y z) : PortBounded x z where
  pacing hx := k.pacing (h.pacing hx)
  queue l hx := k.queue l (h.queue l hx)
  notices hx := k.notices (h.notices hx)
  flags hx := k.flags (h.flags hx)
  meters hx := k.meters (h.meters hx)

namespace PortMinor

variable {joins : Port → Prop} {x y z : PortState}

theorem refl (x : PortState) : PortMinor joins x x := {}

theorem trans (h : PortMinor joins x y) (k : PortMinor joins y z) : PortMinor joins x z where
  toPortBounded := h.toPortBounded.trans k.toPortBounded
  session := k.session.trans h.session
  epoch := k.epoch.trans h.epoch
  config := k.config.trans h.config
  enables := k.enables.trans h.enables
  deadline := k.deadline.trans h.deadline
  threshold := k.threshold.trans h.threshold
  slot := k.slot.trans h.slot
  samples := k.samples.trans h.samples
  response r hr := k.response r (h.response r hr)
  carries q := (k.carries q).trans (h.carries q)
  shows f hf := k.shows f (h.shows f hf)
  emptied hs hx := k.emptied (h.session.trans hs) (h.emptied hs hx)
  waiters p l hp := (k.waiters p l hp).elim (h.waiters p l) .inr

end PortMinor

/-- The ports that may join a waiter set: all but an OFFLINE port without an OPEN or HELD message (R62, R140). -/
def Joins (s : State) (p : Port) : Prop := (s.port p).session = .offline → s.noUndelivered p = false

theorem Joins.of_attached {s : State} {p : Port} (h : (s.port p).session = .attached) : Joins s p := fun ho => by
  rw [h] at ho
  cases ho

theorem noUndelivered_congr {s t : State} (h : t.table = s.table) (p : Port) :
    t.noUndelivered p = s.noUndelivered p := by
  simp only [State.noUndelivered, h]

theorem noUndelivered_iff {s : State} {p : Port} :
    s.noUndelivered p = true ↔ ∀ (i : DescIndex) (m : Message), (s.desc i).state.undelivered? = some m → m.source ≠ p := by
  have over_indices : s.noUndelivered p = true ↔ ∀ i : DescIndex,
      (match (s.desc i).state.undelivered? with
        | some m => decide (m.source ≠ p)
        | none => true) = true := by
    simp only [State.noUndelivered, List.all_eq_true, Vector.mem_toList_iff, Vector.mem_iff_getElem, State.desc]
    exact ⟨fun h i => h _ ⟨i, i.isLt, rfl⟩, by rintro h _ ⟨i, hi, rfl⟩; exact h ⟨i, hi⟩⟩
  rw [over_indices]
  refine forall_congr' fun i => ?_
  split <;> simp [*]

theorem Joins.of_undelivered {s : State} {i : DescIndex} {m : Message} (h : (s.desc i).state.undelivered? = some m) :
    Joins s m.source := fun _ => Bool.eq_false_iff.mpr fun e => noUndelivered_iff.mp e i m h rfl

/-- What an event may do in passing, once or more. -/
structure Minor (s t : State) : Prop where
  table : t.table = s.table := by rfl
  tick : t.tick = s.tick := by rfl
  refclk : t.refclk = s.refclk := by rfl
  pending : t.pending = s.pending := by rfl
  pool : s.pool.wf → t.pool.wf := by exact id
  claim : ClaimLaw s → ClaimLaw t := by exact id
  mark : MarkLaw s → MarkLaw t := by exact id
  port : ∀ q, PortMinor (Joins s) (s.port q) (t.port q) := by exact fun _ => .refl _

/-- What an event may do in passing without a word from any command engine (R177). -/
structure Calm (s t : State) : Prop extends Minor s t where
  engine : ∀ q, (t.port q).engine = (s.port q).engine := by exact fun _ => rfl

theorem Minor.refl (s : State) : Minor s s := {}

theorem Minor.trans {s t u : State} (h : Minor s t) (k : Minor t u) : Minor s u where
  table := k.table.trans h.table
  tick := k.tick.trans h.tick
  refclk := k.refclk.trans h.refclk
  pending := k.pending.trans h.pending
  pool hs := k.pool (h.pool hs)
  claim hs := k.claim (h.claim hs)
  mark hs := k.mark (h.mark hs)
  port q := by
    have joins : Joins t = Joins s := by
      funext p
      simp only [Joins, (h.port p).session, noUndelivered_congr h.table]
    exact (h.port q).trans (joins ▸ k.port q)

theorem Calm.refl (s : State) : Calm s s := {}

theorem Calm.trans {s t u : State} (h : Calm s t) (k : Calm t u) : Calm s u where
  toMinor := h.toMinor.trans k.toMinor
  engine q := (k.engine q).trans (h.engine q)

/-! ## Changes of ports alone -/

theorem holdsClaim_congr {s t : State} (h : t.claim = s.claim) (p : Port) : t.holdsClaim p = s.holdsClaim p := by
  simp only [State.holdsClaim, h]

/-- The laws of the claim and of the marks look at few fields. -/
theorem claimLaw_of {s t : State} (h : ClaimLaw s) (hc : t.claim = s.claim)
    (hs : ∀ p, (t.port p).session = (s.port p).session) : ClaimLaw t := by
  intro p hp
  rw [holdsClaim_congr hc] at hp
  rw [hs, hc]
  exact h p hp

/-- Fewer sampling events and no new lease event leave the marks in order. -/
theorem markLaw_of {s t : State} (h : MarkLaw s) (hl : t.leaseDue = true → s.leaseDue = true ∧ t.claim ≠ none)
    (hm : t.markDue = s.markDue) (ht : t.tick = s.tick) (hs : ∀ p, (t.port p).samplesDue ≤ (s.port p).samplesDue) :
    MarkLaw t := by
  obtain ⟨-, hmark, hone, htick⟩ := h
  refine ⟨fun e => (hl e).2, fun e => ?_, fun p => (hs p).trans (hone p), fun e => ht ▸ htick ?_⟩
  · obtain ⟨hlease, hsamples⟩ := hmark (hm ▸ e)
    refine ⟨Bool.eq_false_of_not_eq_true fun e' => ?_, fun p => Nat.le_zero.mp (hsamples p ▸ hs p)⟩
    exact Bool.eq_false_iff.mp hlease (hl e').1
  · rcases e with e | e | ⟨p, e⟩
    · exact .inl (hm ▸ e)
    · exact .inr (.inl (hl e).1)
    · exact .inr (.inr ⟨p, fun h0 => e (Nat.le_zero.mp (h0 ▸ hs p))⟩)

/-- A change of ports alone, port by port. -/
theorem Minor.ofPorts {s t : State} (ht : OnlyPorts s t)
    (hp : ∀ q, PortMinor (Joins s) (s.port q) (t.port q)) : Minor s t := by
  have hclaim : t.claim = s.claim := by rw [ht]
  have hlease : t.leaseDue = s.leaseDue := by rw [ht]
  exact
    { table := by rw [ht]
      tick := by rw [ht]
      refclk := by rw [ht]
      pending := by rw [ht]
      pool := by
        rw [ht]
        exact id
      claim := fun h => claimLaw_of h hclaim fun p => (hp p).session
      mark := fun h => markLaw_of h (fun e => ⟨hlease ▸ e, hclaim ▸ h.1 (hlease ▸ e)⟩) (by rw [ht]) (by rw [ht])
        fun p => (hp p).samples
      port := hp }

/-- A change of ports alone that leaves the engines, port by port. -/
theorem Calm.ofPorts {s t : State} (ht : OnlyPorts s t)
    (hp : ∀ q, PortMinor (Joins s) (s.port q) (t.port q))
    (he : ∀ q, (t.port q).engine = (s.port q).engine) : Calm s t where
  toMinor := .ofPorts ht hp
  engine := he

theorem Minor.modifyPort {s : State} {p : Port} {f : PortState → PortState}
    (h : PortMinor (Joins s) (s.port p) (f (s.port p))) :
    Minor s (s.modifyPort p f) := by
  refine .ofPorts rfl fun q => ?_
  rw [State.port_modifyPort]
  split
  · next hq =>
    rw [hq]
    exact h
  · exact .refl _

theorem Calm.modifyPort {s : State} {p : Port} {f : PortState → PortState}
    (h : PortMinor (Joins s) (s.port p) (f (s.port p)))
    (he : (f (s.port p)).engine = (s.port p).engine := by rfl) : Calm s (s.modifyPort p f) where
  toMinor := .modifyPort h
  engine q := by
    rw [State.port_modifyPort]
    split
    · next hq => rw [hq, he]
    · rfl

theorem Calm.mapPorts {s : State} {f : Port → PortState → PortState}
    (h : ∀ q, PortMinor (Joins s) (s.port q) (f q (s.port q)))
    (he : ∀ q, (f q (s.port q)).engine = (s.port q).engine) : Calm s (s.mapPorts f) :=
  .ofPorts rfl (fun q => by rw [State.port_mapPorts]; exact h q) fun q => by rw [State.port_mapPorts, he]

/-! ## Single ports -/

section Ports

variable {joins : Port → Prop} (x : PortState)

theorem mask_latched (f : LatchedFlag) : f.mask &&& latchedPositions = f.mask := by
  cases f <;> decide

theorem shows_raise (f g : LatchedFlag) : (x.raise f).shows g = (x.shows g || f.mask.getLsbD g.bit) := by
  simp [PortState.shows, PortState.raise]

theorem PortMinor.raise (f : LatchedFlag) : PortMinor joins x (x.raise f) :=
  { shows := fun g hg => by rw [shows_raise, hg, Bool.true_or]
    flags := fun h => by
      simp only [FlagsFit, PortState.raise, BitVec.and_or_distrib_right, mask_latched] at h ⊢
      rw [h] }

theorem PortMinor.raiseIf (c : Prop) [Decidable c] (f : LatchedFlag) :
    PortMinor joins x (if c then x.raise f else x) := by
  split
  · exact .raise x f
  · exact .refl x

theorem PortMinor.clearMarker : PortMinor joins x { x with creditWait := false } :=
  { emptied := fun _ h => ⟨h.1, h.2.1, h.2.2.1, rfl⟩ }

theorem PortMinor.resolveMarker : PortMinor joins x x.resolveMarker := by
  unfold PortState.resolveMarker
  split
  · exact (PortMinor.raise x .creditFreed).trans (.clearMarker _)
  · exact .refl x

theorem PortMinor.uncharge (l : Lane) (c : Charge) : PortMinor joins x (x.uncharge l c) := {}

theorem PortMinor.miso (a : ChipSelect) (b : List Byte) : PortMinor joins x { x with chipSelect := a, miso := b } := {}

theorem PortMinor.takeNotices (n : Nat) : PortMinor joins x { x with notices := x.notices.drop n } :=
  { emptied := fun _ h => ⟨h.1, h.2.1, by rw [h.2.2.1, List.drop_nil], h.2.2.2⟩
    notices := fun h => (by rw [List.length_drop]; omega : (x.notices.drop n).length ≤ 16) }

/-- A meter that is counted up saturates (R163). -/
theorem satAdd_le (a b : Nat) : satAdd a b ≤ 4294967295 := Nat.min_le_right _ _

theorem PortMinor.count {f : Meters → Meters} (h : MetersFit x.meters → MetersFit (f x.meters)) :
    PortMinor joins x { x with meters := f x.meters } := { meters := h }

theorem PortMinor.refill (slot : Option HeldPost) (h : slot.map HeldPost.handle = slotHandle x) :
    PortMinor joins x { x.refill with heldPost := slot } :=
  { slot := h
    pacing := fun hx => by
      obtain ⟨htokens, -, -⟩ := hx
      refine ⟨?_, fun h0 => ⟨h0, rfl⟩, fun h1 => ⟨h1, Nat.le_refl _⟩⟩
      simp only [PortState.refill]
      split
      · assumption
      · exact htokens }

theorem PortMinor.sample : PortMinor joins x x.sample := by
  have sampled : PortMinor joins x
      { x with
        samplesDue := x.samplesDue - 1
        meters := { x.meters with
          heldCellMs := satAdd x.meters.heldCellMs x.charged, borrowMs := satAdd x.meters.borrowMs x.borrowed } } :=
    { samples := Nat.sub_le _ _
      meters := fun h => ⟨satAdd_le _ _, satAdd_le _ _, h.2.2⟩ }
  unfold PortState.sample
  dsimp only
  split
  · exact sampled.trans (.raise _ _)
  · exact sampled

/-- A change of one queue that is no more than its queue's own bounds allow. -/
theorem PortMinor.modifyQueue {l : Lane} {f : InboundQueue → InboundQueue}
    (hfits : QueueFits (x.inbound.get l) → QueueFits (f (x.inbound.get l)))
    (hempty : x.session = .offline → (x.inbound.get l).entries = [] → (f (x.inbound.get l)).entries = [])
    (hwaiters : ∀ p ∈ (f (x.inbound.get l)).waiters, p ∈ (x.inbound.get l).waiters ∨ joins p) :
    PortMinor joins x (x.modifyQueue l f) := by
  have other : ∀ k, (x.modifyQueue l f).inbound.get k
      = if k = l then f (x.inbound.get l) else x.inbound.get k := fun k => PerLane.get_set _ _ _ _
  exact
    { emptied := fun hs h => by
        obtain ⟨hu, hr, hn, hc⟩ := h
        have still : ∀ k, (x.inbound.get k).entries = [] → ((x.modifyQueue l f).inbound.get k).entries = [] := by
          intro k hk
          rw [other]
          split
          · next e => exact hempty hs (e ▸ hk)
          · exact hk
        exact ⟨still .urgent hu, still .routine hr, hn, hc⟩
      waiters := fun p k hp => by
        rw [other] at hp
        split at hp
        · next e => exact e ▸ hwaiters p hp
        · exact .inl hp
      queue := fun k hk => by
        rw [other]
        split
        · next e => exact hfits (e ▸ hk)
        · exact hk }

/-- A queue that loses its head, its waiters told when it leaves full (R82). -/
theorem PortMinor.dropHead (l : Lane) :
    PortMinor joins x (x.modifyQueue l fun k =>
      { k with entries := k.entries.tail, waiters := if k.entries.length = 32 then [] else k.waiters }) := by
  refine .modifyQueue x (fun h => ?_) (fun _ h => ?_) fun p hp => ?_
  · refine ⟨?_, fun hw => ?_⟩
    · have := h.1
      simp only [List.length_tail]
      omega
    · split at hw
      · exact absurd rfl hw
      · next hne => exact absurd (h.2 hw) hne
  · rw [h, List.tail_nil]
  · simp only at hp
    split at hp
    · cases hp
    · exact .inl hp

/-- An entry joins a queue with room (R60, R78). -/
theorem PortMinor.enter {l : Lane} (e : Entry) (hs : x.session = .attached)
    (hroom : (x.inbound.get l).entries.length < 32) :
    PortMinor joins x (x.modifyQueue l fun k => { k with entries := k.entries ++ [e] }) := by
  refine .modifyQueue x (fun h => ?_) (fun ho => ?_) fun p hp => .inl hp
  · refine ⟨by simpa using hroom, fun hw => ?_⟩
    have := h.2 hw
    omega
  · rw [hs] at ho
    cases ho

/-- An ATTACHED source joins the waiter set of a full queue (R62, R81). -/
theorem PortMinor.await {l : Lane} {source : Port} (hj : joins source)
    (hfull : 32 ≤ (x.inbound.get l).entries.length) :
    PortMinor joins x (x.modifyQueue l fun k => { k with waiters := joinSet source k.waiters }) := by
  refine .modifyQueue x (fun h => ⟨h.1, fun _ => Nat.le_antisymm h.1 hfull⟩) (fun _ h => h) fun p hp => ?_
  obtain ⟨-, hp⟩ := List.mem_filter.mp hp
  rcases of_decide_eq_true hp with rfl | hp
  · exact .inr hj
  · exact .inl hp

theorem PortMinor.setSeries (l : Lane) (b : Bool) :
    PortMinor joins x (x.modifyQueue l fun k => { k with series := b }) :=
  .modifyQueue x id (fun _ h => h) fun _ hp => .inl hp

theorem PortMinor.leaveWaiters (l : Lane) (p : Port) :
    PortMinor joins x (x.modifyQueue l fun k => { k with waiters := k.waiters.filter fun w => decide (w ≠ p) }) := by
  refine .modifyQueue x (fun h => ⟨h.1, fun hw => h.2 fun e => ?_⟩) (fun _ h => h) fun q hq => .inl (List.mem_of_mem_filter hq)
  exact hw (by simp only [e, List.filter_nil])

end Ports

/-! ## What the shared operations do in passing -/

section Operations

variable (s : State) (p : Port)

theorem Calm.raiseWhere (on : Port → Bool) (f : LatchedFlag) : Calm s (s.raiseWhere on f) :=
  .mapPorts (fun q => .raiseIf _ _ f) fun q => by split <;> rfl

theorem Calm.raiseOn (f : LatchedFlag) : Calm s (s.raiseOn p f) := .modifyPort (.raise _ f)

theorem Calm.shift (a : ChipSelect) (b : List Byte) :
    Calm s (s.modifyPort p fun x => { x with chipSelect := a, miso := b }) := .modifyPort (.miso _ a b)

theorem Calm.endPeriod : Calm s (s.endPeriod p) := .modifyPort {}

theorem Calm.resolveMarkers (on : Port → Bool) : Calm s (s.resolveMarkers on) := by
  refine .mapPorts (fun q => ?_) fun q => ?_
  · split
    · exact .resolveMarker _
    · exact .refl _
  · split
    · rw [PortState.resolveMarker_eq]
    · rfl

theorem Calm.refund (m : Message) : Calm s (s.refund m) := by
  have charged : Calm s (s.modifyPort m.source fun x => x.uncharge m.lane m.split) := .modifyPort (.uncharge _ _ _)
  have cells : Calm (s.modifyPort m.source fun x => x.uncharge m.lane m.split)
      { s.modifyPort m.source (fun x => x.uncharge m.lane m.split) with freeList := s.freeList ++ m.chain } := {}
  exact charged.trans (cells.trans (.resolveMarkers _ _))

theorem Calm.offer (n : Notice) : Calm s (s.offer p n) := by
  unfold State.offer
  split
  · next hs =>
    split
    · next hroom =>
      refine .modifyPort { notices := fun _ => ?_, emptied := fun ho => ?_ }
      · have : (s.port p).notices.length < 16 := hroom
        simpa using this
      · rw [hs] at ho
        cases ho
    · exact .raiseOn s p _
  · exact .refl s

theorem Calm.countMeters {f : Meters → Meters} (h : ∀ m, MetersFit m → MetersFit (f m)) : Calm s (s.countMeters p f) :=
  .modifyPort (.count _ (h _))

theorem Calm.spendTokens (k : Nat) : Calm s (s.spendTokens p k) := by
  refine .modifyPort ?_ ?_
  · split
    · exact { pacing := fun h => ⟨(Nat.sub_le _ _).trans h.1, h.2⟩ }
    · exact .refl _
  · split <;> rfl

theorem Calm.setMarker (hs : (s.port p).session = .attached) : Calm s (s.setMarker p) :=
  .modifyPort { emptied := fun ho => by rw [hs] at ho; cases ho }

theorem Calm.takeNotices (n : Nat) : Calm s (s.modifyPort p fun x => { x with notices := x.notices.drop n }) :=
  .modifyPort (.takeNotices _ n)

theorem Calm.endSeries (l : Lane) : Calm s (s.endSeries p l) :=
  .modifyPort (f := fun x => x.modifyQueue l fun k => { k with series := false }) (.setSeries _ l false)

theorem Calm.dropHead (l : Lane) : Calm s (s.dropHead p l) := by
  have dropped : Calm s (s.modifyQueue p l fun k =>
      { k with entries := k.entries.tail, waiters := if k.entries.length = 32 then [] else k.waiters }) :=
    .modifyPort (.dropHead _ l)
  unfold State.dropHead
  dsimp only
  split
  · next hfull =>
    have same : (s.modifyQueue p l fun k => { k with entries := k.entries.tail, waiters := [] })
        = s.modifyQueue p l fun k =>
          { k with entries := k.entries.tail, waiters := if k.entries.length = 32 then [] else k.waiters } := by
      simp only [State.modifyQueue, State.modifyPort_eq, PortState.modifyQueue]
      rw [if_pos (show ((s.port p).inbound.get l).entries.length = 32 from hfull)]
    rw [same]
    exact dropped.trans (.raiseWhere _ _ _)
  · next hfull =>
    have same : (s.modifyQueue p l fun k => { k with entries := k.entries.tail })
        = s.modifyQueue p l fun k =>
          { k with entries := k.entries.tail, waiters := if k.entries.length = 32 then [] else k.waiters } := by
      simp only [State.modifyQueue, State.modifyPort_eq, PortState.modifyQueue]
      rw [if_neg (show ¬((s.port p).inbound.get l).entries.length = 32 from hfull)]
    rw [same]
    exact dropped

theorem Calm.appendEntries (e : Entry) (l : Lane) {ports : List Port}
    (h : ∀ q ∈ ports, (s.port q).session = .attached ∧ (s.queue q l).entries.length < 32) :
    Calm s (s.appendEntries e l ports) := by
  refine .mapPorts (fun q => ?_) fun q => by split <;> rfl
  split
  · next hq => exact .enter _ e (h q hq).1 (h q hq).2
  · exact .refl _

theorem Calm.addWaiters {l : Lane} {full : List Port} (hs : Joins s p)
    (h : ∀ q ∈ full, 32 ≤ (s.queue q l).entries.length) : Calm s (s.addWaiters p l full) := by
  refine .mapPorts (fun q => ?_) fun q => by split <;> rfl
  split
  · next hq => exact .await _ hs (h q hq)
  · exact .refl _

theorem Calm.leaveWaiterSets : Calm s (s.leaveWaiterSets p) :=
  .mapPorts (fun q => (PortMinor.leaveWaiters (s.port q) .urgent p).trans (.leaveWaiters _ .routine p)) fun _ => rfl

theorem Calm.endRelease {hp : HeldPost} (h : (s.port p).heldPost = some hp) : Calm s (s.endRelease p hp) :=
  .modifyPort { slot := by simp only [slotHandle, h, Option.map_some] }

/-! ### The claim and its lease -/

/-- A change of the claim alone that keeps the laws of the claim and of the marks. -/
theorem Calm.ofClaim {t : State} (ht : t = { s with claim := t.claim, leaseDue := t.leaseDue })
    (hclaim : ClaimLaw s → ClaimLaw t) (hlease : t.leaseDue = true → s.leaseDue = true ∧ t.claim ≠ none) : Calm s t := by
  have hport : ∀ q, t.port q = s.port q := fun q => by rw [ht]; rfl
  exact
    { table := by rw [ht]
      tick := by rw [ht]
      refclk := by rw [ht]
      pending := by rw [ht]
      pool := by
        rw [ht]
        exact id
      claim := hclaim
      mark := fun h => markLaw_of h hlease (by rw [ht]) (by rw [ht]) fun q => by rw [hport q]
      port := fun q => by
        rw [hport q]
        exact .refl _
      engine := fun q => by rw [hport q] }

/-- An unheld claim keeps its law. -/
theorem claimLaw_of_none {t : State} (h : t.claim = none) : ClaimLaw t := by
  intro p hp
  simp [State.holdsClaim, h] at hp

/-- A claim with an ATTACHED holder and a lease in its range keeps its law (R151). -/
theorem claimLaw_of_some {t : State} {c : Claim} (h : t.claim = some c) (hs : (t.port c.holder).session = .attached)
    (h1 : 1 ≤ c.lease) (h2 : c.lease ≤ 2000) : ClaimLaw t := by
  intro p hp
  simp only [State.holdsClaim, h, decide_eq_true_eq] at hp
  subst hp
  exact ⟨hs, by simpa [h] using h1, by simpa [h] using h2⟩

theorem one_le_claimLease : 1 ≤ Config.claimLease := by decide

theorem claimLease_le : Config.claimLease ≤ 2000 := by decide

theorem Calm.renewLease : Calm s (s.renewLease p) := by
  unfold State.renewLease
  split
  · next hp =>
    exact .ofClaim s rfl (fun h => claimLaw_of_some rfl (h p hp).1 one_le_claimLease claimLease_le)
      fun e => ⟨e, by simp⟩
  · exact .refl s

theorem Calm.grantClaim (hs : (s.port p).session = .attached) : Calm s (s.grantClaim p) :=
  .ofClaim s rfl (fun _ => claimLaw_of_some rfl hs one_le_claimLease claimLease_le) fun e =>
    ⟨(Bool.and_eq_true_iff.mp e).1, by simp⟩

theorem Calm.dropClaim : Calm s s.dropClaim :=
  .ofClaim s rfl (fun _ => claimLaw_of_none rfl) fun e => by cases e

theorem Calm.dropClaimOf : Calm s (s.dropClaimOf p) := by
  unfold State.dropClaimOf
  split
  · exact .dropClaim s
  · exact .refl s

/-- The lease event of a mark (R155). -/
theorem Calm.lowerLease : Calm s ({ s with leaseDue := false } : State).lowerLease := by
  unfold State.lowerLease
  split
  · next hc => exact .ofClaim s rfl (fun _ => claimLaw_of_none hc) fun e => by cases e
  · next c hc =>
    split
    · have dropped : Calm s ({ s with leaseDue := false } : State).dropClaim := .dropClaim s
      exact dropped.trans (.raiseOn _ _ _)
    · next hlease =>
      refine .ofClaim s rfl (fun h => ?_) fun e => by cases e
      have holder : s.holdsClaim c.holder = true := State.holdsClaim_iff.mpr ⟨c.lease, hc⟩
      obtain ⟨hs, -, hmax⟩ := h _ holder
      have hle : c.lease ≤ 2000 := by
        rw [show s.claim = some c from hc] at hmax
        exact hmax
      exact claimLaw_of_some (c := { c with lease := c.lease - 1 }) rfl hs (by simp only; omega) (by simp only; omega)

/-! ### The pool -/

/-- A change of the pool that keeps its canonical form. -/
theorem Calm.setPool {m : Pool} (h : s.pool.wf → m.wf) : Calm s { s with pool := m } := { pool := h }

end Operations

/-! ## Held posts (R70) -/

/-- The HELD message that a handle names (R70). -/
theorem heldMessage_eq_some {s : State} {h : Handle} {m : Message} :
    s.heldMessage h = some m ↔
      (s.desc (handleIndex h)).state = .held m ∧ (s.desc (handleIndex h)).generation = handleGeneration h := by
  unfold State.heldMessage
  dsimp only
  split
  · next n hn =>
    rw [hn]
    split <;> simp [*]
  · next hn => exact ⟨fun e => (by cases e), fun e => absurd e.1 (hn m)⟩

/-- The law of held posts looks at the handles in the slots and at the table. -/
theorem heldLaw_iff {s : State} :
    HeldLaw s ↔
      (∀ p h, slotHandle (s.port p) = some h → ∃ m, Names s h (.held m) ∧ m.source = p)
        ∧ ∀ i m, (s.desc i).state = .held m → slotHandle (s.port m.source) = some (s.handleAt i) := by
  refine and_congr (forall_congr' fun p => ?_) (forall_congr' fun i => ?_)
  · split
    · next h => simp [slotHandle, h]
    · next hp h => simp [slotHandle, h, Names, heldMessage_eq_some]
  · split
    · next m h => simp [slotHandle, h]
    · next h => exact ⟨fun _ m hm => absurd hm (h m), fun _ => trivial⟩

theorem heldLaw_congr {s t : State} (ht : t.table = s.table)
    (hs : ∀ q, slotHandle (t.port q) = slotHandle (s.port q)) : HeldLaw t ↔ HeldLaw s := by
  simp only [heldLaw_iff, hs, Names, State.handleAt, State.desc, ht]

theorem heldLaw_of {s t : State} (h : HeldLaw s) (ht : t.table = s.table)
    (hs : ∀ q, slotHandle (t.port q) = slotHandle (s.port q)) : HeldLaw t := (heldLaw_congr ht hs).mpr h

theorem Minor.heldLaw_iff {s t : State} (h : Minor s t) : HeldLaw t ↔ HeldLaw s :=
  heldLaw_congr h.table fun q => (h.port q).slot

/-! ## The command engine (R177) -/

/-- An engine that no response and no detach in flight holds: IDLE, or with an accepted command. -/
def Ready (s : State) (p : Port) : Prop := (s.port p).engine = .idle ∨ ∃ f, (s.port p).engine = .accepted f

theorem Ready.calm {s t : State} {p : Port} (h : Ready s p) (hc : Calm s t) : Ready t p := by
  unfold Ready
  rw [hc.engine]
  exact h

theorem Ready.of_accepted {s : State} {p : Port} {f : CommandFrame} (h : (s.port p).engine = .accepted f) : Ready s p :=
  .inr ⟨f, h⟩

/-- A ready engine that accepts a command, or has its response. -/
theorem Minor.setEngine {s : State} {p : Port} (h : Ready s p) (e : Engine) (he : ∀ q, e ≠ .detachInFlight q) :
    Minor s (s.modifyPort p fun x => { x with engine := e }) := by
  refine .modifyPort { response := fun r hr => ?_, carries := fun q => ⟨fun hq => absurd hq (he q), fun hq => ?_⟩ }
  all_goals rcases h with h | ⟨f, h⟩
  all_goals simp_all

theorem Minor.answer {s : State} {p : Port} (h : Ready s p) (r : Result) (b : List Byte) : Minor s (s.answer p r b) :=
  .setEngine h _ fun _ e => by cases e

/-! ### Frames -/

/-- A frame does in passing what its effect does. -/
theorem Minor.frame (s : State) (p : Port) (miso : Byte → List Byte) {act : State → State}
    (h : ∀ t, Minor t (act t)) : Minor s (s.frame p miso act) := by
  unfold State.frame
  split
  · exact (Calm.endPeriod s p).toMinor
  · exact (Calm.shift s p .high _).toMinor.trans (h _)
  · exact (Calm.shift s p (s.port p).chipSelect _).toMinor.trans (h _)

theorem Minor.decideFrame (s : State) (p : Port) (f : CommandFrame) (good : Bool) : Minor s (s.decideFrame p f good) := by
  unfold State.decideFrame
  split
  · next hidle =>
    split
    · exact .setEngine (.inl hidle) _ fun _ e => by cases e
    · exact (Minor.answer (.inl hidle) _ _).trans (Calm.raiseOn _ _ _).toMinor
  · exact (Calm.raiseOn _ _ _).toMinor

theorem Minor.commandFrame (s : State) (p : Port) (bytes : List Byte) : Minor s (s.commandFrame p bytes) := by
  unfold State.commandFrame
  split
  · exact .frame s p _ fun t => .decideFrame t p _ _
  · exact .refl s

theorem Minor.brokenFrame (s : State) (p : Port) (n : Nat) : Minor s (s.brokenFrame p n) :=
  .frame s p _ fun t => (Calm.raiseOn t p _).toMinor

theorem Minor.regReadFrame (s : State) (p : Port) (rest : List Byte) : Minor s (s.regReadFrame p rest) := by
  cases rest with
  | nil => exact .brokenFrame s p 1
  | cons address more => exact .frame s p _ .refl

/-! ## The changes that an event makes once -/

/-- The rows that write a register of a port: its own row, or a register write frame of its address (R183, R188). -/
def WritesRegister (c : Instr) (p : Port) (r : WritableRegister) (v : Word) : Prop :=
  (∃ rest, c = .regWrite p (0x82#8 :: r.address :: rest))
    ∨ c =
      match r with
      | .eventFlags => .eventFlags p v
      | .eventEnable => .eventEnable p v
      | .deadline l => .deadlineWrite p l v
      | .meterThreshold => .meterThreshold p v

/-- The hub after a mark is delivered (R99). -/
def markDelivered (s : State) : State :=
  { s with
    markDue := false, leaseDue := s.claim.isSome
    ports := s.ports.map fun _ x =>
      { x with
        samplesDue := x.samplesDue + 1
        inbound := { urgent := x.inbound.urgent.beginSeries, routine := x.inbound.routine.beginSeries } } }

/-- What a HELD message's descriptor can become (R4). -/
inductive Unheld (g : Fin 512) (m : Message) : Descriptor → Prop
  | freed : Unheld g m { generation := g + 1, state := .free }
  | reopened : Unheld g m { generation := g, state := .opened m }
  | delivered (d : Delivery) : Unheld g m { generation := g, state := .live m d }

/-- The changes that an event makes once at most. Those of a row of its own name the row. -/
inductive Main (c : Instr) : State → State → Prop
  | same (s : State) : Main c s s
  | attached {s : State} {p : Port} {args : List Byte} (hc : c = .attach p args) (hs : (s.port p).session = .offline) :
      Main c s (s.modifyPort p PortState.attach)
  | detachBegun {s : State} {target issuer : Port} (hs : (s.port target).session = .attached)
      (hclaim : s.holdsClaim target = false) (he : ∃ f, (s.port issuer).engine = .accepted f) :
      Main c s (s.beginDetach target issuer)
  | detached {s u : State} {p issuer : Port} (hs : (s.port p).session = .detaching issuer)
      (hdone : s.workListDone p = true) (hu : Calm (s.modifyPort p fun x => { x with session := .offline }) u) :
      Main c s (u.answer issuer .ok [])
  | opened {s : State} {p : Port} {a : OpenArgs} {i : DescIndex} {ch : Charge} (hs : (s.port p).session = .attached)
      (hi : (s.desc i).state = .free) : Main c s (s.allocate p a i ch)
  | freed {s : State} {i : DescIndex} {m : Message}
      (hi : (s.desc i).state = .opened m ∨ ∃ d, (s.desc i).state = .live m d) : Main c s (s.freeDesc i)
  | held {s : State} {p : Port} {i : DescIndex} {m : Message} (hi : (s.desc i).state = .opened m) (hm : m.source = p)
      (hslot : (s.port p).heldPost = none) : Main c s (s.holdPost p i m)
  | unheld {s u : State} {p : Port} {i : DescIndex} {m : Message} {d : Descriptor} (hi : (s.desc i).state = .held m)
      (hp : HeldLaw s → m.source = p) (hd : Unheld (s.desc i).generation m d) (hu : Calm (s.setDesc i d) u) :
      Main c s (u.emptySlot p)
  | delivered {s : State} {i : DescIndex} {m : Message} {d : Delivery} (hi : (s.desc i).state = .opened m) :
      Main c s (s.setDesc i { generation := (s.desc i).generation, state := .live m d })
  | read {s : State} {i : DescIndex} {m n : Message} {d e : Delivery} (hi : (s.desc i).state = .live m d)
      (hn : n = { m with fault := n.fault }) (hfault : m.fault = true → n.fault = true) :
      Main c s (s.setDesc i { generation := (s.desc i).generation, state := .live n e })
  | configured {s : State} {p q : Port} {args : List Byte} {f : ConfigField} {v : Nat} (hc : c = .configure p args) :
      Main c s (s.modifyPort q fun x => x.applyField f v)
  | written {s : State} {p : Port} {r : WritableRegister} {v : Word} (hc : WritesRegister c p r v) :
      Main c s (s.writeRegister p r v)
  | fetched {s : State} {p : Port} {n : Nat} (hc : c = .fetch p n) :
      Main c s (s.modifyPort p fun x => { x with engine := x.engine.afterFetch n })
  | marked {s : State} (h : s.markDue = true) : Main c s (markDelivered s)
  | hubReset {s : State} {p : Port} {args : List Byte} (hc : c = .hubReset p args) : Main c s s.hubReset

/-- What an event of row `c` does: one change at most, and what it does in passing before and after it. -/
def Run (c : Instr) (s t : State) : Prop := ∃ u v, Minor s u ∧ Main c u v ∧ Minor v t

/-- What an event of row `c` answers, if it answers a next state, is such a run. -/
def Ran (c : Instr) (s : State) (o : StepOutcome) : Prop := ∀ t, o = .next t → Run c s t

section Runs

variable {c : Instr} {s t u v : State} {o : StepOutcome} {p : Port}

theorem Main.run (h : Main c s t) : Run c s t := ⟨s, t, .refl s, h, .refl t⟩

theorem Minor.run (h : Minor s t) : Run c s t := ⟨s, s, .refl s, .same s, h⟩

theorem Run.after (h : Minor s t) (hr : Run c t u) : Run c s u := by
  obtain ⟨a, b, hta, hab, hbu⟩ := hr
  exact ⟨a, b, h.trans hta, hab, hbu⟩

theorem Run.before (hr : Run c s t) (h : Minor t u) : Run c s u := by
  obtain ⟨a, b, hsa, hab, hbt⟩ := hr
  exact ⟨a, b, hsa, hab, hbt.trans h⟩

theorem Ran.next (h : Run c s t) : Ran c s (.next t) := by
  rintro _ ⟨⟩
  exact h

theorem Ran.minor (h : Minor s t) : Ran c s (.next t) := .next h.run

theorem Ran.calm (h : Calm s t) : Ran c s (.next t) := .minor h.toMinor

theorem Ran.main (h : Main c s t) : Ran c s (.next t) := .next h.run

theorem Ran.unchanged : Ran c s (.next s) := .minor (.refl s)

theorem Ran.fault (f : Fault) : Ran c s (.fault f) := by
  intro t h
  cases h

theorem Ran.after (h : Minor s t) (ho : Ran c t o) : Ran c s o := fun u hu => (ho u hu).after h

/-- A refusal of a command in a port whose engine awaits its response. -/
theorem Ran.refused (h : Ready s p) (r : Result) : Ran c s (refuse p r s) := .minor (.answer h r [])

theorem Ran.answered (h : Ready s p) (r : Result) (b : List Byte) : Ran c s (.next (s.answer p r b)) :=
  .minor (.answer h r b)

/-- A command that does something in passing and then has its response. -/
theorem Ran.calmAnswered (h : Ready s p) (hc : Calm s t) (r : Result) (b : List Byte) :
    Ran c s (.next (t.answer p r b)) := .minor (hc.toMinor.trans (.answer (h.calm hc) r b))

/-- A command that makes its one change, with what it does in passing, and then has its response. -/
theorem Ran.mainAnswered (h : Ready s p) (hsu : Calm s u) (hm : Main c u v)
    (he : (v.port p).engine = (u.port p).engine) (hvt : Calm v t) (r : Result) (b : List Byte) :
    Ran c s (.next (t.answer p r b)) := by
  have hv : Ready v p := by
    unfold Ready
    rw [he]
    exact h.calm hsu
  exact .next ⟨u, v, hsu.toMinor, hm, hvt.toMinor.trans (.answer (hv.calm hvt) r b)⟩

/-- A command row is a frame, and the taking of its command from an engine that has accepted it (R175, R178). -/
theorem Ran.issue {code : Byte} {args : List Byte} {body : List Byte → State → StepOutcome} (s : State)
    (h : ∀ as t, (∃ f, (t.port p).engine = .accepted f) → Ran c t (body as t)) : Ran c s (issue p code args body s) := by
  have taken : ∀ t, (t.port p).engine = .accepted (CommandFrame.of code args) →
      Ran c t (takeCommand p (CommandFrame.of code args) body t) := fun t ht => by
    unfold takeCommand
    split
    · exact .after (Calm.renewLease t p).toMinor (h _ _ ⟨_, by rw [State.renewLease_port, ht]⟩)
    · exact .refused (.of_accepted ht) _
  rcases issue_cases p code args body s with e | e | ⟨t, rfl | rfl, ht, e⟩ <;> rw [e]
  · exact .unchanged
  · exact .minor (.commandFrame s p _)
  · exact taken t ht
  · exact .after (.commandFrame s p _) (taken _ ht)

end Runs

/-! ## What each row does -/

section Rows

variable (c : Instr) (p : Port) (s : State)

/-! ### Sessions -/

theorem ran_attach (args : List Byte) : Ran (.attach p args) s (execAttach p args s) := by
  refine .issue s fun as t hready => ?_
  have ready : Ready t p := .inr hready
  unfold attachBody
  split
  · exact .refused ready _
  · exact .refused ready _
  · next hs =>
    exact .mainAnswered ready (.refl t) (.attached rfl hs) (by simp) (.raiseWhere _ _ _) _ _

theorem dropClaimOf_holdsClaim : (s.dropClaimOf p).holdsClaim p = false := by
  unfold State.dropClaimOf
  split
  · rfl
  · next h => exact Bool.eq_false_of_not_eq_true h

theorem ran_detach (args : List Byte) : Ran c s (execDetach p args s) := by
  refine .issue s fun as t hready => ?_
  have ready : Ready t p := .inr hready
  unfold detachBody
  split
  · exact .refused ready _
  · next hcheck =>
    have dropped := Calm.dropClaimOf t p
    have attached : ((t.dropClaimOf p).port p).session = .attached := by
      rw [(dropped.port p).session]
      simpa using sessionCheck_eq_none.mp hcheck
    exact .after dropped.toMinor
      (.main (.detachBegun attached (dropClaimOf_holdsClaim p t) (by rwa [dropped.engine])))

/-- A claim has one holder (R151). -/
theorem holdsClaim_unique {s : State} {p q : Port} (hp : s.holdsClaim p = true) (hq : q ≠ p) : s.holdsClaim q = false := by
  obtain ⟨n, hn⟩ := State.holdsClaim_iff.mp hp
  simp [State.holdsClaim, hn, Ne.symm hq]

theorem ran_forceDetach (args : List Byte) : Ran c s (execForceDetach p args s) := by
  refine .issue s fun as t hready => ?_
  have ready : Ready t p := .inr hready
  unfold forceDetachBody
  split
  · split
    · exact .refused ready _
    · next hcheck =>
      split
      · exact .refused ready _
      · split
        · exact .refused ready _
        · next hq =>
          split
          · exact .refused ready _
          · next hs =>
            obtain ⟨-, hclaim⟩ : sessionCheck false p t = none ∧ claimCheck p t = none := by simpa using hcheck
            exact .main (.detachBegun (not_not.mp hs) (holdsClaim_unique (claimCheck_eq_none.mp hclaim) hq) hready)
  · exact .refused ready _

/-- An abandoned message leaves the table, and its source's slot (R51, R136). -/
theorem run_abandonMessage (i : DescIndex) (hm : (s.desc i).state.undelivered?.isSome = true) :
    ∃ u v, Calm s u ∧ Main c u v ∧ s.abandonMessage i = v ∧ ∀ q, (v.port q).engine = (u.port q).engine := by
  unfold State.abandonMessage
  split
  · next m h => exact ⟨_, _, .refund s m, .freed (m := m) (.inl h), rfl, fun q => rfl⟩
  · next m h =>
    refine ⟨_, _, .refund s m, .unheld (m := m) h (fun _ => rfl) .freed (.refl _), rfl, fun q => ?_⟩
    simp only [State.emptySlot, State.port_modifyPort, State.port_setDesc]
    split
    · next hq => rw [hq]
    · rfl
  · next ho hh =>
    cases hd : (s.desc i).state with
    | free => simp [hd, DescState.undelivered?] at hm
    | opened m => exact absurd hd (ho m)
    | held m => exact absurd hd (hh m)
    | live m d => simp [hd, DescState.undelivered?] at hm

theorem ran_detachAbandonment (i : DescIndex) : Ran c s (execDetachAbandonment p i s) := by
  unfold execDetachAbandonment
  split
  · split
    · next m hm =>
      split
      · obtain ⟨u, v, hsu, huv, e, -⟩ := run_abandonMessage c s i (by rw [hm]; rfl)
        rw [e]
        exact .after hsu.toMinor (.main huv)
      · exact .unchanged
    · exact .unchanged
  · exact .unchanged

/-- A removal of the head entry (R79): the entry leaves in passing, and the message is updated or leaves the table. -/
theorem run_removeHead {s : State} {p : Port} {l : Lane} {hd : Head} (h : s.head p l = some (some hd))
    (o : ReaderOutcome) :
    ∃ u v, Calm s u ∧ Main c u v ∧ s.removeHead p l hd o = v ∧ ∀ q, (v.port q).engine = (u.port q).engine := by
  obtain ⟨-, hlive⟩ := State.head_eq_some h
  obtain ⟨hstate, -⟩ := State.liveEntry_eq_some.mp hlive
  have hi : ((s.dropHead p l).desc (handleIndex hd.entry.handle)).state = .live hd.message hd.delivery := by
    rwa [Books.dropHead_desc]
  have dropped := Calm.dropHead s p l
  unfold State.removeHead State.finishReader
  dsimp only
  split
  · refine ⟨_, _, dropped.trans ((Calm.refund _ hd.message).trans (.offer _ _ _)), .freed (m := hd.message) (.inr ⟨hd.delivery, ?_⟩), rfl,
      fun q => rfl⟩
    rw [State.offer_desc, State.refund_desc]
    exact hi
  · exact ⟨_, _, dropped, .read hi rfl id, rfl, fun q => rfl⟩

theorem ran_flush (l : Lane) : Ran c s (execFlush p l s) := by
  unfold execFlush
  split
  · split
    · exact .fault _
    · exact .unchanged
    · next hd h =>
      obtain ⟨u, v, hsu, huv, e, -⟩ := run_removeHead c h .discarded
      rw [e]
      exact .after hsu.toMinor (.main huv)
  · exact .unchanged

theorem ran_noticeQueueEmptying : Ran c s (execNoticeQueueEmptying p s) := by
  unfold execNoticeQueueEmptying
  split
  · exact .calm (.modifyPort { notices := fun _ => Nat.zero_le _, emptied := fun _ h => ⟨h.1, h.2.1, rfl, h.2.2.2⟩ })
  · exact .unchanged

theorem ran_waiterRemoval : Ran c s (execWaiterRemoval p s) := by
  unfold execWaiterRemoval
  split
  · exact .calm ((Calm.leaveWaiterSets s p).trans (.modifyPort (.clearMarker _)))
  · exact .unchanged

theorem ran_detachCompletion : Ran c s (execDetachCompletion p s) := by
  unfold execDetachCompletion
  split
  · next issuer hs =>
    split
    · next hready =>
      obtain ⟨hdone, -⟩ := Bool.and_eq_true_iff.mp hready
      have told : Calm (s.modifyPort p fun x => { x with session := .offline })
          ((s.modifyPort p fun x => { x with session := .offline }).announcePeerChange p) := .raiseWhere _ _ _
      dsimp only
      split
      · exact .main (.detached hs hdone told)
      · exact .main (.detached hs hdone (told.trans (.raiseOn _ _ _)))
    · exact .unchanged
  · exact .unchanged

/-! ### Composing -/

theorem allocate_engine (a : OpenArgs) (i : DescIndex) (ch : Charge) (q : Port) :
    ((s.allocate p a i ch).port q).engine = (s.port q).engine := by
  have charged := State.port_modifyPort s p q fun x => x.charge a.lane ch
  refine (congrArg PortState.engine charged).trans ?_
  split
  · next h => rw [h, PortState.charge_engine]
  · rfl

theorem ran_openMessage (args : List Byte) : Ran c s (execOpenMessage p args s) := by
  refine .issue s fun as t hready => ?_
  have ready : Ready t p := .inr hready
  unfold openBody
  split
  · split
    · exact .refused ready _
    · next hcheck =>
      have attached : (t.port p).session = .attached := by simpa using sessionCheck_eq_none.mp hcheck
      split
      · exact .refused ready _
      · split
        · exact .refused ready _
        · split
          · exact .refused ready _
          · next i hi =>
            split
            · exact .calmAnswered ready (.setMarker t p attached) _ _
            · split
              · exact .fault _
              · exact .mainAnswered ready (.refl t) (.opened attached (State.lowestFree_eq_some hi).1)
                  (allocate_engine p t _ _ _ p) (.refl _) _ _
  · exact .refused ready _

theorem ran_write (args : List Byte) : Ran c s (execWrite p args s) := by
  refine .issue s fun as t hready => ?_
  have ready : Ready t p := .inr hready
  unfold writeBody
  split
  · split
    · exact .refused ready _
    · split
      · exact .refused ready _
      · split
        · exact .refused ready _
        · split
          · exact .refused ready _
          · split
            · exact .fault _
            · next addresses ha =>
              exact .calmAnswered ready (.setPool t fun h => Pool.wf_writeWords _ _ _ h (wordAddresses_lt ha)) _ _
        · exact .refused ready _
  · exact .refused ready _

theorem ran_abandon (args : List Byte) : Ran c s (execAbandon p args s) := by
  refine .issue s fun as t hready => ?_
  have ready : Ready t p := .inr hready
  unfold abandonBody
  split
  · next h1 h0 =>
    split
    · exact .refused ready _
    · split
      · exact .refused ready _
      · exact .refused ready _
      · next d hd hnot =>
        obtain ⟨hstate, -, m, hm, -⟩ := State.sourceSide_eq_ok.mp hnot
        have undelivered : (t.desc (handleIndex (word16 h1 h0))).state.undelivered?.isSome = true := by
          rw [hstate]
          cases d with
          | free => cases hm
          | opened m => rfl
          | held m => rfl
          | live m d => exact absurd rfl (hd m d)
        obtain ⟨u, v, htu, huv, e, he⟩ := run_abandonMessage c t _ undelivered
        rw [e]
        exact .mainAnswered ready htu huv (he p) (.refl v) _ _
  · exact .refused ready _

/-! ### Posting -/

/-- The verdict that accepts a message (R58). -/
theorem verdict_accept {s : State} {l : Lane} {d : Port} (h : s.verdict l d = .accept) :
    (s.port d).session = .attached ∧ (s.queue d l).entries.length < 32 := by
  unfold State.verdict at h
  split at h
  · next hs =>
    split at h
    · next hq => exact ⟨hs, hq⟩
    · cases h
  · cases h

/-- The verdict that finds a queue full (R58). -/
theorem verdict_full {s : State} {l : Lane} {d : Port} (h : s.verdict l d = .refusedFull) :
    32 ≤ (s.queue d l).entries.length := by
  unfold State.verdict at h
  split at h
  · split at h
    · cases h
    · next hq => exact Nat.le_of_not_lt hq
  · cases h

theorem judge_accepting {s : State} {m : Message} {q : Port} (h : q ∈ (s.judge m).accepting) :
    (s.port q).session = .attached ∧ (s.queue q m.lane).entries.length < 32 :=
  verdict_accept (of_decide_eq_true (List.mem_filter.mp h).2)

theorem judge_full {s : State} {m : Message} {q : Port} (h : q ∈ (s.judge m).full) :
    32 ≤ (s.queue q m.lane).entries.length := verdict_full (of_decide_eq_true (List.mem_filter.mp h).2)

/-- Entries that join queues make none shorter. -/
theorem queue_appendEntries_length (e : Entry) (l k : Lane) (ports : List Port) (q : Port) :
    (s.queue q k).entries.length ≤ ((s.appendEntries e l ports).queue q k).entries.length := by
  simp only [State.queue, State.appendEntries, State.port_mapPorts]
  split
  · simp only [PortState.modifyQueue, PerLane.get_set]
    split
    · next h => simp [h]
    · exact Nat.le_refl _
  · exact Nat.le_refl _

/-- A successful delivery step (R60): the entries, the waiter marks, the sequence number and the meters change in passing,
and the descriptor becomes LIVE. -/
theorem run_deliverOk {s : State} {m : Message} (i : DescIndex) (hs : Joins s m.source) :
    ∃ u d, Calm s u ∧ u.table = s.table
      ∧ s.deliverOk i m (s.judge m) = u.setDesc i { generation := (u.desc i).generation, state := .live m d } := by
  have entered : Calm s (s.appendEntries { handle := s.handleAt i, arrival := s.tick } m.lane (s.judge m).accepting) :=
    .appendEntries s _ _ fun q hq => judge_accepting hq
  have marked := Calm.addWaiters (l := m.lane) (full := (s.judge m).full)
    (s.appendEntries { handle := s.handleAt i, arrival := s.tick } m.lane (s.judge m).accepting) m.source
    (fun ho => hs ((entered.port m.source).session ▸ ho))
    fun q hq => (judge_full hq).trans (queue_appendEntries_length s _ _ _ _ q)
  have counted : ∀ t : State, Calm t (t.modifyPort m.source fun x =>
      { x with
        sequence := (s.port m.source).sequence + 1
        meters :=
          { x.meters with
            posts := satAdd x.meters.posts 1, postedCells := satAdd x.meters.postedCells m.cells
            refusals := satAdd x.meters.refusals (s.judge m).refusals } }) := fun t =>
    .modifyPort { meters := fun h => ⟨h.1, h.2.1, satAdd_le _ _, satAdd_le _ _, satAdd_le _ _, h.2.2.2.2.2⟩ }
  exact ⟨_, (s.judge m).delivery (s.port m.source).sequence, entered.trans (marked.trans (counted _)), rfl, rfl⟩

/-- A failed delivery step (R63). -/
theorem Calm.deliverFail {m : Message} (hs : Joins s m.source) : Calm s (s.deliverFail m (s.judge m)) :=
  (Calm.addWaiters s m.source hs fun _ hq => judge_full hq).trans
    (.countMeters _ _ fun _ h => ⟨h.1, h.2.1, h.2.2.1, h.2.2.2.1, satAdd_le _ _, h.2.2.2.2.2⟩)

theorem ran_postDecision {s : State} {p : Port} {i : DescIndex} {m : Message} (ready : Ready s p)
    (hi : (s.desc i).state = .opened m) (hm : m.source = p) (hs : (s.port p).session = .attached) :
    Ran c s (postDecision p i m s) := by
  subst hm
  unfold postDecision
  split
  · unfold postNow
    dsimp only
    split
    · obtain ⟨u, d, hsu, ht, hlive⟩ := run_deliverOk i (.of_attached hs)
      have hu : (u.desc i).state = .opened m := by
        simp only [State.desc, ht] at hi ⊢
        exact hi
      rw [hlive]
      exact .mainAnswered ready hsu (.delivered hu) rfl (.spendTokens _ _ _) _ _
    · exact .calmAnswered ready (.deliverFail s (.of_attached hs)) _ _
  · split
    · next hslot =>
      refine .mainAnswered ready (.refl s) (.held hi rfl hslot) ?_ (.refl _) _ _
      simp [State.holdPost]
    · exact .refused ready _

theorem ran_post (args : List Byte) : Ran c s (execPost p args s) := by
  refine .issue s fun as t hready => ?_
  have ready : Ready t p := .inr hready
  unfold postBody
  split
  · split
    · exact .refused ready _
    · next hcheck =>
      split
      · exact .refused ready _
      · next m h =>
        obtain ⟨hstate, -, n, hn, hsource⟩ := State.sourceSide_eq_ok.mp h
        cases hn
        exact ran_postDecision c ready hstate hsource (by simpa using sessionCheck_eq_none.mp hcheck)
      · exact .refused ready _
  · exact .refused ready _

/-- A refill changes no handle in the slot (R71). -/
theorem slotAfterRefill_handle (tokens : Nat) (slot : Option HeldPost) :
    (s.slotAfterRefill tokens slot).map HeldPost.handle = slot.map HeldPost.handle := by
  unfold State.slotAfterRefill
  split
  · rfl
  · split
    · split <;> rfl
    · rfl

theorem ran_refill : Ran c s (execRefill p s) := by
  unfold execRefill
  split
  · exact .calm (.modifyPort (.refill _ _ (slotAfterRefill_handle _ _ _)))
  · exact .unchanged

/-- A taken release (R73, R74). -/
theorem run_runRelease {s : State} {p : Port} {h : Handle} {m : Message} (hi : (s.desc (handleIndex h)).state = .held m)
    (hp : HeldLaw s → m.source = p) : Run c s (s.runRelease p h m) := by
  have joins : Joins s m.source := .of_undelivered (by rw [hi]; rfl)
  unfold State.runRelease
  dsimp only
  split
  · obtain ⟨u, d, hsu, ht, hlive⟩ := run_deliverOk (handleIndex h) joins
    have hu : (u.desc (handleIndex h)).state = .held m := by
      simp only [State.desc, ht] at hi ⊢
      exact hi
    rw [hlive]
    exact ⟨_, _, hsu.toMinor, .unheld hu (fun h => hp (hsu.heldLaw_iff.mp h)) (.delivered d) (.spendTokens _ _ _),
      (Calm.offer _ _ _).toMinor⟩
  · have failed := Calm.deliverFail s joins
    exact ⟨_, _, failed.toMinor, .unheld (d := { generation := _, state := .opened m }) hi
      (fun h => hp (failed.heldLaw_iff.mp h)) .reopened (.refl _), (Calm.offer _ _ _).toMinor⟩

theorem ran_releaseOfHeldPost : Ran c s (execReleaseOfHeldPost p s) := by
  unfold execReleaseOfHeldPost
  split
  · exact .unchanged
  · next hp hslot =>
    split
    · exact .unchanged
    · split
      · exact .fault _
      · next m hm =>
        split
        · next hgo =>
          refine .next (run_runRelease c (heldMessage_eq_some.mp hm).1 fun hheld => ?_)
          have named := hheld.1 p
          rw [hslot] at named
          simpa [hm] using named
        · exact .calm (.endRelease s p hslot)

/-! ### Consuming -/

theorem ran_peek (args : List Byte) : Ran c s (execPeek p args s) := by
  refine .issue s fun as t hready => ?_
  have ready : Ready t p := .inr hready
  unfold peekBody
  split
  · split
    · exact .refused ready _
    · split
      · exact .refused ready _
      · split
        · exact .fault _
        · exact .refused ready _
        · exact .answered ready _ _
  · exact .refused ready _

/-- A READ that has passed its checks changes words of the pool in passing, and perhaps the fault mark (R17, R36). -/
theorem ran_readTaken {s : State} {p : Port} {l : Lane} {hd : Head} (ready : Ready s p)
    (h : s.head p l = some (some hd)) (offset count : Nat) {addresses : List Nat} (ha : ∀ a ∈ addresses, a < 4096) :
    Ran c s (readTaken p hd offset count addresses s) := by
  obtain ⟨-, hlive⟩ := State.head_eq_some h
  obtain ⟨hstate, -⟩ := State.liveEntry_eq_some.mp hlive
  have pool : Calm s { s with pool := (readWords addresses s.pool).pool } := .setPool s fun hw => Pool.wf_readWords hw ha
  unfold readTaken
  dsimp only
  split
  · exact .mainAnswered ready pool (.read (n := { hd.message with fault := true }) hstate rfl fun _ => rfl) rfl (.refl _)
      _ _
  · exact .calmAnswered ready pool _ _

theorem ran_read (args : List Byte) : Ran c s (execRead p args s) := by
  refine .issue s fun as t hready => ?_
  have ready : Ready t p := .inr hready
  unfold readBody
  split
  · split
    · exact .refused ready _
    · split
      · exact .refused ready _
      · split
        · exact .refused ready _
        · split
          · exact .refused ready _
          · split
            · next hd h =>
              split
              · exact .refused ready _
              · split
                · exact .fault _
                · next addresses ha => exact ran_readTaken c ready h _ _ (wordAddresses_lt ha)
            · exact .fault _
  · exact .refused ready _

/-- A count of one kind of event saturates (R163). -/
theorem countMeters_consumed : Calm s (s.countMeters p fun x => { x with consumed := satAdd x.consumed 1 }) :=
  .countMeters s p fun _ h => ⟨h.1, h.2.1, h.2.2.1, h.2.2.2.1, h.2.2.2.2.1, satAdd_le _ _, h.2.2.2.2.2.2⟩

theorem countMeters_expiries : Calm s (s.countMeters p fun x => { x with expiries := satAdd x.expiries 1 }) :=
  .countMeters s p fun _ h => ⟨h.1, h.2.1, h.2.2.1, h.2.2.2.1, h.2.2.2.2.1, h.2.2.2.2.2.1, satAdd_le _ _⟩

theorem ran_done (args : List Byte) : Ran c s (execDone p args s) := by
  refine .issue s fun as t hready => ?_
  have ready : Ready t p := .inr hready
  unfold doneBody
  split
  · split
    · exact .refused ready _
    · split
      · exact .refused ready _
      · split
        · next hd h =>
          obtain ⟨u, v, htu, huv, e, he⟩ := run_removeHead c h .consumed
          rw [e]
          exact .mainAnswered ready htu huv (he p) (countMeters_consumed p v) _ _
        · exact .fault _
  · exact .refused ready _

theorem run_expire {s : State} {p : Port} {l : Lane} {hd : Head} (h : s.head p l = some (some hd)) :
    Run c s (s.expire p l hd) := by
  obtain ⟨u, v, hsu, huv, e, -⟩ := run_removeHead c h .expired
  unfold State.expire
  rw [e]
  exact ⟨u, v, hsu.toMinor, huv, ((Calm.offer v p _).trans (countMeters_expiries p _)).toMinor⟩

theorem ran_examination (l : Lane) : Ran c s (execExamination p l s) := by
  unfold execExamination
  split
  · split
    · exact .calm (.endSeries s p l)
    · split
      · exact .fault _
      · exact .calm (.endSeries s p l)
      · next hd h =>
        split
        · exact .next (run_expire c h)
        · exact .calm (.endSeries s p l)
  · exact .unchanged

theorem ran_expiry (l : Lane) : Ran c s (execExpiry p l s) := by
  unfold execExpiry
  split
  · split
    · exact .fault _
    · exact .unchanged
    · next hd h =>
      split
      · exact .next (run_expire c h)
      · exact .unchanged
  · exact .unchanged

/-! ### A port's own figures -/

theorem ran_notices (args : List Byte) : Ran c s (execNotices p args s) := by
  refine .issue s fun as t hready => ?_
  have ready : Ready t p := .inr hready
  unfold noticesBody
  split
  · split
    · exact .refused ready _
    · split
      · exact .refused ready _
      · split
        · exact .refused ready _
        · exact .calmAnswered ready (.takeNotices t p _) _ _
  · exact .refused ready _

theorem ran_account (args : List Byte) : Ran c s (execAccount p args s) := by
  refine .issue s fun as t hready => ?_
  have ready : Ready t p := .inr hready
  unfold accountBody
  split
  · exact .refused ready _
  · exact .answered ready _ _

theorem ran_meters (args : List Byte) : Ran c s (execMeters p args s) := by
  refine .issue s fun as t hready => ?_
  have ready : Ready t p := .inr hready
  unfold metersBody
  split
  · split
    · exact .refused ready _
    · split
      · exact .refused ready _
      · dsimp only
        split
        · exact .calmAnswered ready (.countMeters t p fun _ _ => by decide) _ _
        · exact .answered ready _ _
  · exact .refused ready _

theorem sample_engine (x : PortState) : x.sample.engine = x.engine := by
  unfold PortState.sample
  dsimp only
  split <;> rfl

theorem ran_samplingEvent : Ran c s (execSamplingEvent p s) := by
  unfold execSamplingEvent
  split
  · exact .unchanged
  · exact .calm (.modifyPort (.sample _) (sample_engine _))

/-! ### The claim and the configuration -/

theorem ran_claim (args : List Byte) : Ran c s (execClaim p args s) := by
  refine .issue s fun as t hready => ?_
  have ready : Ready t p := .inr hready
  unfold claimBody
  split
  · exact .refused ready _
  · next hcheck =>
    split
    · exact .calmAnswered ready (.grantClaim t p (by simpa using sessionCheck_eq_none.mp hcheck)) _ _
    · exact .refused ready _

theorem ran_release (args : List Byte) : Ran c s (execRelease p args s) := by
  refine .issue s fun as t hready => ?_
  have ready : Ready t p := .inr hready
  unfold releaseBody
  split
  · exact .refused ready _
  · exact .calmAnswered ready (.dropClaim t) _ _

theorem ran_leaseDecrement : Ran c s (execLeaseDecrement s) := by
  unfold execLeaseDecrement
  split
  · exact .calm (.lowerLease s)
  · exact .unchanged

theorem ran_claimExpiry : Ran c s (execClaimExpiry s) := by
  unfold execClaimExpiry
  split
  · exact .calm (.lowerLease s)
  · exact .unchanged

theorem applyField_engine (x : PortState) (f : ConfigField) (v : Nat) : (x.applyField f v).engine = x.engine := by
  cases f <;> rfl

theorem ran_configure (args : List Byte) : Ran (.configure p args) s (execConfigure p args s) := by
  refine .issue s fun as t hready => ?_
  have ready : Ready t p := .inr hready
  unfold configureBody
  split
  · split
    · exact .refused ready _
    · split
      · next q f _ _ =>
        dsimp only
        split
        · split
          · exact .refused ready _
          · split
            · exact .answered ready _ _
            · refine .mainAnswered ready (.refl t) (.configured rfl) ?_
                ((Calm.resolveMarkers _ _).trans (.raiseWhere _ _ _)) _ _
              rw [State.port_modifyPort]
              split
              · next hq => rw [hq, applyField_engine]
              · rfl
        · exact .refused ready _
      · exact .refused ready _
  · exact .refused ready _

theorem ran_configRead (args : List Byte) : Ran c s (execConfigRead p args s) := by
  refine .issue s fun as t hready => ?_
  have ready : Ready t p := .inr hready
  unfold configReadBody
  split
  · split
    · exact .refused ready _
    · split
      · exact .refused ready _
      · exact .answered ready _ _
  · exact .refused ready _

/-! ### The hub reset and the mark -/

theorem hubReset_port (q : Port) : s.hubReset.port q = (s.port q).hubReset := by
  cases q <;> rfl

theorem ran_hubReset (args : List Byte) : Ran (.hubReset p args) s (execHubReset p args s) := by
  refine .issue s fun as t hready => ?_
  have ready : Ready t p := .inr hready
  unfold hubResetBody
  split
  · exact .refused ready _
  · have idle : (t.hubReset.port p).engine = .idle := by
      obtain ⟨f, hf⟩ := hready
      simp [hubReset_port, PortState.hubReset, Engine.hubReset, hf]
    exact .next ⟨t, _, .refl t, .hubReset rfl, .answer (.inl idle) _ _⟩

theorem ran_millisecondMark : Ran c s (execMillisecondMark s) := by
  unfold execMillisecondMark
  split
  · next h => exact .main (.marked h)
  · exact .unchanged

/-! ### Frames -/

/-- A frame with the effect of a change that an event makes once. -/
theorem Run.frame (miso : Byte → List Byte) {act : State → State} (h : ∀ t, Main c t (act t)) :
    Run c s (s.frame p miso act) := by
  unfold State.frame
  split
  · exact (Calm.endPeriod s p).toMinor.run
  · exact .after (Calm.shift s p .high _).toMinor (h _).run
  · exact .after (Calm.shift s p (s.port p).chipSelect _).toMinor (h _).run

variable {c p} in
theorem run_registerFrame {r : WritableRegister} {v : Word} (hc : WritesRegister c p r v) :
    Run c s (s.registerFrame p r v) := .frame c p s _ fun _ => .written hc

theorem run_fetchFrame (clocked : Nat) : Run (.fetch p clocked) s (s.fetchFrame p clocked) := by
  unfold State.fetchFrame
  split
  · exact (Minor.refl s).run
  · exact .frame _ p s _ fun _ => .fetched rfl

/-- The address of a writable register (R188). -/
theorem address_of_writableAt {a : Byte} {r : WritableRegister} (h : writableAt a = some r) : a = r.address := by
  unfold writableAt at h
  repeat' split at h
  all_goals cases h
  all_goals assumption

theorem run_regWriteFrame (bytes : List Byte) : Run (.regWrite p bytes) s (s.regWriteFrame p bytes) := by
  have broken : ∀ n, Run (.regWrite p bytes) s (s.brokenFrame p n) := fun n => (Minor.brokenFrame s p n).run
  unfold State.regWriteFrame
  split
  · next kind a d3 d2 d1 d0 crc after =>
    split
    · exact (Minor.refl s).run
    · next hkind =>
      split
      · exact broken _
      · split
        · next r hr =>
          refine .frame _ p s _ fun _ => .written (.inl ⟨d3 :: d2 :: d1 :: d0 :: crc :: after, ?_⟩)
          rw [not_not.mp hkind, address_of_writableAt hr]
        · exact broken _
  · split
    · exact (Minor.refl s).run
    · exact broken _
  · exact (Minor.refl s).run

theorem run_regFrame (bytes : List Byte) : Run (.regWrite p bytes) s (s.regFrame p bytes) := by
  unfold State.regFrame
  split
  · exact (Minor.refl s).run
  · split
    · exact (Minor.regReadFrame s p _).run
    · exact run_regWriteFrame p s _

theorem ran_shortFrame (bytes : List Byte) : Ran c s (execShortFrame p bytes s) := by
  unfold execShortFrame
  split
  · exact .calm (.endPeriod s p)
  · split
    · exact .minor (.brokenFrame s p _)
    · exact .unchanged

theorem ran_unknownCommandCode (code : Byte) (args : List Byte) : Ran c s (execUnknownCommandCode p code args s) := by
  unfold execUnknownCommandCode
  split
  · exact .issue s fun _ t hready => .refused (.inr hready) _
  · exact .unchanged

theorem ran_storageUpset (cell : CellIndex) (w : Fin 8) (wordBits : Word) (codeBits : BitVec 7) :
    Ran c s (execStorageUpset cell w wordBits codeBits s) :=
  .calm (.setPool s fun h => Pool.wf_store h (by have := cell.isLt; have := w.isLt; omega))

end Rows

/-! ### Every row but a power-on reset -/

theorem ran_exec {c : Instr} (hc : c ≠ .powerOnReset) (s : State) : Ran c s (exec c s) := by
  cases c with
  | attach p args => exact ran_attach p s args
  | detach p args => exact ran_detach _ p s args
  | forceDetach p args => exact ran_forceDetach _ p s args
  | openMessage p args => exact ran_openMessage _ p s args
  | write p args => exact ran_write _ p s args
  | abandon p args => exact ran_abandon _ p s args
  | post p args => exact ran_post _ p s args
  | peek p args => exact ran_peek _ p s args
  | read p args => exact ran_read _ p s args
  | done p args => exact ran_done _ p s args
  | notices p args => exact ran_notices _ p s args
  | account p args => exact ran_account _ p s args
  | meters p args => exact ran_meters _ p s args
  | claim p args => exact ran_claim _ p s args
  | release p args => exact ran_release _ p s args
  | configure p args => exact ran_configure p s args
  | configRead p args => exact ran_configRead _ p s args
  | hubReset p args => exact ran_hubReset p s args
  | commandFrame p bytes => exact .minor (.commandFrame s p bytes)
  | shortFrame p bytes => exact ran_shortFrame _ p s bytes
  | fetch p clocked => exact .next (run_fetchFrame p s clocked)
  | regReadFrameCut p => exact .minor (.regReadFrame s p [])
  | regWrite p bytes => exact .next (run_regFrame p s bytes)
  | eventFlags p value => exact .next (run_registerFrame s (.inr rfl))
  | eventEnable p value => exact .next (run_registerFrame s (.inr rfl))
  | deadlineWrite p lane value => exact .next (run_registerFrame s (.inr rfl))
  | meterThreshold p value => exact .next (run_registerFrame s (.inr rfl))
  | powerOnReset => exact absurd rfl hc
  | millisecondMark => exact ran_millisecondMark _ s
  | examination p lane => exact ran_examination _ p s lane
  | expiry p lane => exact ran_expiry _ p s lane
  | leaseDecrement => exact ran_leaseDecrement _ s
  | claimExpiry => exact ran_claimExpiry _ s
  | samplingEvent p => exact ran_samplingEvent _ p s
  | refill p => exact ran_refill _ p s
  | releaseOfHeldPost p => exact ran_releaseOfHeldPost _ p s
  | detachAbandonment p index => exact ran_detachAbandonment _ p s index
  | flush p lane => exact ran_flush _ p s lane
  | noticeQueueEmptying p => exact ran_noticeQueueEmptying _ p s
  | waiterRemoval p => exact ran_waiterRemoval _ p s
  | detachCompletion p => exact ran_detachCompletion _ p s
  | storageUpset cell word wordBits codeBits => exact ran_storageUpset _ s cell word wordBits codeBits
  | unknownCommandCode p code args => exact ran_unknownCommandCode _ p s code args
  | csNFall p => exact .calm (.shift s p _ (s.port p).miso)

/-- A next state of any row but a power-on reset is reached by a run of that row. -/
theorem exec_run {c : Instr} {s t : State} (h : exec c s = .next t) (hc : c ≠ .powerOnReset) : Run c s t :=
  ran_exec hc s t h

/-! ## The bounds of each port -/

theorem PortBounded.refl (x : PortState) : PortBounded x x := {}

theorem PortBounded.modifyPort {s : State} {p : Port} {f : PortState → PortState} (h : ∀ x, PortBounded x (f x)) (q : Port) :
    PortBounded (s.port q) ((s.modifyPort p f).port q) := by
  rw [State.port_modifyPort]
  split
  · next hq =>
    rw [hq]
    exact h _
  · exact .refl _

/-- Fewer latches than before stand in no new position. -/
theorem flagsFit_and {a : BitVec 15} (b : BitVec 15) (h : a &&& latchedPositions = a) :
    a &&& b &&& latchedPositions = a &&& b := by
  rw [BitVec.and_assoc, BitVec.and_comm b, ← BitVec.and_assoc, h]

theorem metersFit_zero : MetersFit Meters.zero := by decide

theorem PortBounded.attach (x : PortState) : PortBounded x x.attach :=
  { pacing := fun h => ⟨Nat.le_refl _, h.2⟩
    flags := flagsFit_and _
    meters := fun _ => metersFit_zero }

theorem PortBounded.applyField (x : PortState) (f : ConfigField) (v : Nat) : PortBounded x (x.applyField f v) := by
  cases f with
  | reserved l => exact {}
  | borrowCeiling => exact {}
  | outstandingCap => exact {}
  | paceInterval => exact { pacing := fun h => ⟨h.1, fun h0 => ⟨h0, rfl⟩, fun h1 => ⟨h1, Nat.le_refl _⟩⟩ }
  | bucketDepth => exact { pacing := fun h => ⟨Nat.min_le_right _ _, h.2⟩ }

theorem PortBounded.written (x : PortState) (r : WritableRegister) (v : Word) :
    PortBounded x (match r with
      | .eventFlags => x.clearFlags v
      | .eventEnable => x.setEnables v
      | .deadline l => { x with deadline := x.deadline.set l (v.setWidth 16) }
      | .meterThreshold => { x with threshold := v }) := by
  cases r with
  | eventFlags => exact { flags := flagsFit_and _ }
  | eventEnable => exact {}
  | deadline l => exact {}
  | meterThreshold => exact {}

theorem queueFits_reset : QueueFits InboundQueue.reset := by decide

theorem PortBounded.hubReset (x : PortState) : PortBounded x x.hubReset :=
  { pacing := fun _ => ⟨Nat.le_refl _, fun h0 => ⟨h0, rfl⟩, fun h1 => ⟨h1, Nat.le_refl _⟩⟩
    queue := fun l _ => by cases l <;> exact queueFits_reset
    notices := fun _ => Nat.zero_le _
    flags := fun _ => mask_latched _
    meters := fun _ => metersFit_zero }

theorem markDelivered_port (s : State) (q : Port) :
    (markDelivered s).port q =
      { s.port q with
        samplesDue := (s.port q).samplesDue + 1
        inbound :=
          { urgent := (s.port q).inbound.urgent.beginSeries, routine := (s.port q).inbound.routine.beginSeries } } :=
  PerPort.get_map _ _ _

theorem beginDetach_port (s : State) (target issuer q : Port) :
    (s.beginDetach target issuer).port q =
      { s.port q with
        session := if q = target then .detaching issuer else (s.port q).session
        engine := if q = issuer then .detachInFlight target else (s.port q).engine } := by
  simp only [State.beginDetach, State.port_modifyPort]
  by_cases hi : q = issuer
  · subst hi
    by_cases ht : q = target <;> simp [ht]
  · by_cases ht : q = target
    · subst ht
      simp [hi]
    · simp [hi, ht]

theorem allocate_port (s : State) (p : Port) (a : OpenArgs) (i : DescIndex) (ch : Charge) (q : Port) :
    (s.allocate p a i ch).port q = if q = p then (s.port p).charge a.lane ch else s.port q :=
  State.port_modifyPort s p q fun x => x.charge a.lane ch

theorem emptySlot_port (s : State) (p q : Port) :
    (s.emptySlot p).port q = { s.port q with heldPost := if q = p then none else (s.port q).heldPost } := by
  rw [State.emptySlot, State.port_modifyPort]
  split
  · next h => rw [h]
  · rfl

theorem holdPost_port (s : State) (p : Port) (i : DescIndex) (m : Message) (q : Port) :
    (s.holdPost p i m).port q =
      { s.port q with
        heldPost := if q = p then some { handle := s.handleAt i, releases := 0 } else (s.port q).heldPost } := by
  rw [State.holdPost, State.port_modifyPort, State.port_setDesc, State.port_setDesc]
  split
  · next h => rw [h]
  · rfl

theorem answer_port_eq (s : State) (p : Port) (r : Result) (b : List Byte) (q : Port) :
    (s.answer p r b).port q =
      { s.port q with engine := if q = p then .held { result := r, payload := b } else (s.port q).engine } := by
  rw [State.answer_port]
  split
  · next h => rw [h]
  · rfl

/-- An event's one change keeps the bounds of every port. -/
theorem Main.bounded {c : Instr} {s t : State} (h : Main c s t) (q : Port) : PortBounded (s.port q) (t.port q) := by
  cases h with
  | same => exact .refl _
  | attached => exact .modifyPort .attach q
  | detachBegun =>
    rw [beginDetach_port]
    exact {}
  | @detached u p issuer _ _ hu =>
    rw [answer_port_eq]
    have offline : PortBounded (s.port q) ((s.modifyPort p fun x => { x with session := .offline }).port q) :=
      .modifyPort (fun _ => {}) q
    exact (offline.trans (hu.port q).toPortBounded).trans {}
  | opened =>
    rw [allocate_port]
    split
    · next hq =>
      rw [hq]
      exact {}
    · exact .refl _
  | freed => exact .refl _
  | held =>
    rw [holdPost_port]
    exact {}
  | unheld _ _ _ hu =>
    rw [emptySlot_port]
    exact PortBounded.trans (hu.port q).toPortBounded {}
  | delivered => exact .refl _
  | read => exact .refl _
  | configured => exact .modifyPort (fun x => .applyField x _ _) q
  | written => exact .modifyPort (fun x => .written x _ _) q
  | fetched => exact .modifyPort (fun _ => {}) q
  | marked =>
    rw [markDelivered_port]
    exact { queue := fun l => by cases l <;> exact id }
  | hubReset =>
    rw [hubReset_port]
    exact .hubReset _

theorem Main.pool {c : Instr} {s t : State} (h : Main c s t) (hs : s.pool.wf) : t.pool.wf := by
  cases h with
  | same => exact hs
  | attached => exact hs
  | detachBegun => exact hs
  | detached _ _ hu => exact hu.pool hs
  | opened => exact Pool.wf_zeroFills _ hs
  | freed => exact hs
  | held => exact hs
  | unheld _ _ _ hu => exact hu.pool hs
  | delivered => exact hs
  | read => exact hs
  | configured => exact hs
  | written => exact hs
  | fetched => exact hs
  | marked => exact hs
  | hubReset => exact hs

/-! ## Every step keeps a law -/

/-- The hub after a power-on reset (R147). -/
def poweredOn (s : State) : State :=
  { State.reset with
    ports := s.ports.map fun _ x => { PortState.reset with chipSelect := x.chipSelect.lose }
    refclk := s.refclk, pending := s.pending }

theorem poweredOn_port (s : State) (q : Port) :
    (poweredOn s).port q = { PortState.reset with chipSelect := (s.port q).chipSelect.lose } := PerPort.get_map _ _ _

theorem tickOnce_port (s : State) (q : Port) : s.tickOnce.port q = (s.port q).countDown := PerPort.get_map _ _ _

/-- Nothing is due: no refill, no mark, no event of a delivered mark. -/
structure NothingDue (s : State) : Prop where
  mark : s.markDue = false
  lease : s.leaseDue = false
  samples : ∀ p, (s.port p).samplesDue = 0

/-- A law that every event keeps, and that the passage of hub time keeps. -/
structure Kept (Law : State → Prop) : Prop where
  minor : ∀ {s t}, Minor s t → Law s → Law t
  main : ∀ {c s t}, Main c s t → Law s → Law t
  reset : ∀ s, Law (poweredOn s)
  tick : ∀ s, NothingDue s → Law s → Law s.tickOnce
  pending : ∀ s rest, Law s → Law { s with pending := rest }

section Steps

variable {Law : State → Prop} (h : Kept Law) {s t : State}

include h

theorem Kept.run {c : Instr} (hr : Run c s t) (hs : Law s) : Law t := by
  obtain ⟨u, v, hsu, huv, hvt⟩ := hr
  exact h.minor hvt (h.main huv (h.minor hsu hs))

theorem Kept.exec {c : Instr} (he : exec c s = .next t) (hs : Law s) : Law t := by
  by_cases hc : c = .powerOnReset
  · subst hc
    cases he
    exact h.reset s
  · exact h.run (exec_run he hc) hs

theorem Kept.idle (he : idle s = .next t) (hs : Law s) : Law t := by
  unfold Machine.idle at he
  split at he
  · next p _ => exact h.exec (c := .refill p) he hs
  · split at he
    · exact h.exec (c := .millisecondMark) he hs
    · next hmark =>
      split at he
      · exact h.exec (c := .leaseDecrement) he hs
      · next hlease =>
        split at he
        · next p _ => exact h.exec (c := .samplingEvent p) he hs
        · next hsampling =>
          have due : NothingDue s :=
            { mark := Bool.eq_false_of_not_eq_true hmark
              lease := Bool.eq_false_of_not_eq_true hlease
              samples := fun p => by simpa using List.find?_eq_none.mp hsampling p (Port.mem_all p) }
          split at he
          · cases he
            exact h.tick s due hs
          · cases he
            exact hs

/-- A law that every event and the passage of hub time keep is kept by every step. -/
theorem Kept.step (he : step s = .next t) (hs : Law s) : Law t := by
  unfold Machine.step at he
  split at he
  · exact h.idle he hs
  · exact h.exec he (h.pending _ _ hs)

end Steps

/-! ## The bounds (R65 to R67, R78, R81, R110, R119, R163) -/

theorem PortBounded.countDown (x : PortState) : PortBounded x x.countDown := by
  unfold PortState.countDown
  split
  · exact .refl x
  · next h0 =>
    split
    · exact { pacing := fun h => ⟨h.1, fun e => absurd e h0, h.2.2⟩ }
    · exact { pacing := fun h => ⟨h.1, fun e => absurd e h0, fun h1 => by have := h.2.2 h1; simp only; omega⟩ }

/-- The bounds of a port, each for itself. -/
theorem PortBounded.poweredOn (a : ChipSelect) :
    Paced { PortState.reset with chipSelect := a } ∧ (∀ l, QueueFits (PortState.reset.inbound.get l))
      ∧ PortState.reset.notices.length ≤ 16 ∧ FlagsFit PortState.reset ∧ MetersFit PortState.reset.meters :=
  ⟨(by decide : Paced PortState.reset), fun l => by cases l <;> exact queueFits_reset, by decide, by decide, by decide⟩

/-- A law of every port that bounded changes of the ports keep. -/
theorem Kept.ofPorts {P : PortState → Prop} (hb : ∀ {x y}, PortBounded x y → P x → P y)
    (hr : ∀ a, P { PortState.reset with chipSelect := a }) : Kept fun s => ∀ p, P (s.port p) where
  minor h hs p := hb (h.port p).toPortBounded (hs p)
  main h hs p := hb (h.bounded p) (hs p)
  reset s p := by
    rw [poweredOn_port]
    exact hr _
  tick s _ hs p := by
    rw [tickOnce_port]
    exact hb (.countDown _) (hs p)
  pending _ _ hs := hs

theorem kept_pacingLaw : Kept PacingLaw := .ofPorts (fun h => h.pacing) fun a => (PortBounded.poweredOn a).1

theorem kept_queueLaw : Kept QueueLaw :=
  .ofPorts (P := fun x => ∀ l, QueueFits (x.inbound.get l)) (fun h hx l => h.queue l (hx l)) fun a =>
    (PortBounded.poweredOn a).2.1

theorem kept_noticeLaw : Kept NoticeLaw :=
  .ofPorts (P := fun x => x.notices.length ≤ 16) (fun h => h.notices) fun a => (PortBounded.poweredOn a).2.2.1

theorem kept_flagLaw : Kept FlagLaw := .ofPorts (P := FlagsFit) (fun h => h.flags) fun a => (PortBounded.poweredOn a).2.2.2.1

theorem kept_meterLaw : Kept MeterLaw :=
  .ofPorts (P := fun x => MetersFit x.meters) (fun h => h.meters) fun a => (PortBounded.poweredOn a).2.2.2.2

theorem kept_poolLaw : Kept PoolLaw where
  minor h := h.pool
  main h := h.pool
  reset _ := Pool.wf_reset
  tick _ _ hs := hs
  pending _ _ hs := hs

/-- Settles O55: each bound is kept by what an event does in passing, by its one change, by a power-on reset and by hub
time. -/
theorem stepKeepsBounds : Obligations.StepKeepsBounds := fun _ _ h =>
  ⟨kept_poolLaw.step h, kept_queueLaw.step h, kept_noticeLaw.step h, kept_flagLaw.step h, kept_meterLaw.step h⟩

/-! ## What one microsecond leaves of a port (R66) -/

theorem countDown_eq (x : PortState) :
    x.countDown = { x with interval := x.countDown.interval, refillDue := x.countDown.refillDue } := by
  unfold PortState.countDown
  split
  · rfl
  · split <;> rfl

theorem countDown_session (x : PortState) : x.countDown.session = x.session := by rw [countDown_eq]

theorem countDown_engine (x : PortState) : x.countDown.engine = x.engine := by rw [countDown_eq]

theorem countDown_samplesDue (x : PortState) : x.countDown.samplesDue = x.samplesDue := by rw [countDown_eq]

theorem slotHandle_countDown (x : PortState) : slotHandle x.countDown = slotHandle x := by
  rw [countDown_eq]
  rfl

/-! ## The claim and the marks (R151, R155, R164) -/

/-- A claim that a change does not touch keeps its law, if its holder stays ATTACHED. -/
theorem claimLaw_of_attached {s t : State} (h : ClaimLaw s) (hc : t.claim = s.claim)
    (hs : ∀ p, s.holdsClaim p = true → (s.port p).session = .attached → (t.port p).session = .attached) :
    ClaimLaw t := by
  intro p hp
  rw [holdsClaim_congr hc] at hp
  obtain ⟨hattached, hlease⟩ := h p hp
  exact ⟨hs p hp hattached, hc ▸ hlease⟩

theorem Main.claimLaw {c : Instr} {s t : State} (hm : Main c s t) (h : ClaimLaw s) : ClaimLaw t := by
  cases hm with
  | same => exact h
  | attached =>
    refine claimLaw_of_attached h rfl fun q _ hq => ?_
    rw [State.port_modifyPort]
    split
    · rfl
    · exact hq
  | detachBegun _ hclaim _ =>
    refine claimLaw_of_attached h rfl fun q hq hs => ?_
    rw [beginDetach_port]
    dsimp only
    split
    · next e => rw [e, hclaim] at hq; cases hq
    · exact hs
  | @detached u p issuer hs _ hu =>
    have offline : ClaimLaw (s.modifyPort p fun x => { x with session := .offline }) := by
      refine claimLaw_of_attached h rfl fun q _ hq => ?_
      rw [State.port_modifyPort]
      split
      · next e => rw [e, hs] at hq; cases hq
      · exact hq
    exact claimLaw_of_attached (hu.claim offline) rfl fun q _ hq => by rw [answer_port_eq]; exact hq
  | opened =>
    refine claimLaw_of h rfl fun q => ?_
    rw [allocate_port]
    split
    · next e => rw [e, PortState.charge_session]
    · rfl
  | freed => exact claimLaw_of h rfl fun _ => rfl
  | held => exact claimLaw_of h rfl fun q => by rw [holdPost_port]
  | @unheld u p i m d _ _ _ hu =>
    have described := claimLaw_of (t := s.setDesc i d) h rfl fun _ => rfl
    exact claimLaw_of (hu.claim described) rfl fun q => by rw [emptySlot_port]
  | delivered => exact claimLaw_of h rfl fun _ => rfl
  | read => exact claimLaw_of h rfl fun _ => rfl
  | @configured p q args f v _ =>
    refine claimLaw_of h rfl fun r => ?_
    rw [State.port_modifyPort]
    split
    · next e =>
      rw [e]
      cases f <;> rfl
    · rfl
  | @written p r v _ =>
    refine claimLaw_of h rfl fun q => ?_
    rw [State.writeRegister, State.port_modifyPort]
    split
    · next e =>
      rw [e]
      cases r <;> rfl
    · rfl
  | fetched =>
    refine claimLaw_of h rfl fun q => ?_
    rw [State.port_modifyPort]
    split
    · next e => rw [e]
    · rfl
  | marked => exact claimLaw_of h rfl fun q => by rw [markDelivered_port]
  | hubReset => exact claimLaw_of_none rfl

theorem kept_claimLaw : Kept ClaimLaw where
  minor h := h.claim
  main h := h.claimLaw
  reset _ := claimLaw_of_none rfl
  tick s _ hs := claimLaw_of hs rfl fun p => by rw [tickOnce_port, countDown_session]
  pending _ _ hs := hs

/-- A change that leaves the claim, the marks and their events leaves their law. -/
theorem markLaw_congr {s t : State} (h : MarkLaw s) (hc : t.claim = s.claim) (hl : t.leaseDue = s.leaseDue)
    (hm : t.markDue = s.markDue) (ht : t.tick = s.tick) (hs : ∀ p, (t.port p).samplesDue = (s.port p).samplesDue) : MarkLaw t :=
  markLaw_of h (fun e => ⟨hl ▸ e, hc ▸ h.1 (hl ▸ e)⟩) hm ht fun p => Nat.le_of_eq (hs p)

theorem samples_modifyPort {s : State} {p : Port} {f : PortState → PortState} (h : ∀ x, (f x).samplesDue = x.samplesDue)
    (q : Port) : ((s.modifyPort p f).port q).samplesDue = (s.port q).samplesDue := by
  rw [State.port_modifyPort]
  split
  · next e => rw [e, h]
  · rfl

/-- A mark that is due finds every event of the mark before it taken, and brings one of each (R99). -/
theorem markLaw_markDelivered {s : State} (hdue : s.markDue = true) (h : MarkLaw s) : MarkLaw (markDelivered s) := by
  obtain ⟨-, hmark, -, htick⟩ := h
  obtain ⟨-, hsamples⟩ := hmark hdue
  have one : ∀ p, ((markDelivered s).port p).samplesDue = 1 := fun p => by
    rw [markDelivered_port]
    simp only [hsamples p]
  refine ⟨fun e => ?_, fun e => ?_, fun p => Nat.le_of_eq (one p), fun _ => htick (.inl hdue)⟩
  · have : s.claim.isSome = true := e
    exact Option.isSome_iff_ne_none.mp this
  · cases (show false = true from e)

theorem Main.markLaw {c : Instr} {s t : State} (hm : Main c s t) (h : MarkLaw s) : MarkLaw t := by
  cases hm with
  | same => exact h
  | attached => exact markLaw_congr h rfl rfl rfl rfl (samples_modifyPort fun _ => rfl)
  | detachBegun => exact markLaw_congr h rfl rfl rfl rfl (fun q => by rw [beginDetach_port])
  | @detached u p issuer _ _ hu =>
    have offline : MarkLaw (s.modifyPort p fun x => { x with session := .offline }) :=
      markLaw_congr h rfl rfl rfl rfl (samples_modifyPort fun _ => rfl)
    exact markLaw_congr (hu.mark offline) rfl rfl rfl rfl (samples_modifyPort fun _ => rfl)
  | @opened p a i ch =>
    refine markLaw_congr h rfl rfl rfl rfl (fun q => ?_)
    rw [allocate_port]
    split
    · next e => rw [e, PortState.charge_samplesDue]
    · rfl
  | freed => exact markLaw_congr h rfl rfl rfl rfl (fun _ => rfl)
  | held => exact markLaw_congr h rfl rfl rfl rfl (fun q => by rw [holdPost_port])
  | @unheld u p i m d _ _ _ hu =>
    have described := markLaw_congr (t := s.setDesc i d) h rfl rfl rfl rfl (fun _ => rfl)
    exact markLaw_congr (hu.mark described) rfl rfl rfl rfl (fun q => by rw [emptySlot_port])
  | delivered => exact markLaw_congr h rfl rfl rfl rfl (fun _ => rfl)
  | read => exact markLaw_congr h rfl rfl rfl rfl (fun _ => rfl)
  | @configured p q args f v _ =>
    exact markLaw_congr h rfl rfl rfl rfl (samples_modifyPort fun x => by cases f <;> rfl)
  | @written p r v _ => exact markLaw_congr h rfl rfl rfl rfl (samples_modifyPort fun x => by cases r <;> rfl)
  | fetched => exact markLaw_congr h rfl rfl rfl rfl (samples_modifyPort fun _ => rfl)
  | marked hdue => exact markLaw_markDelivered hdue h
  | hubReset =>
    exact markLaw_of h (fun e => by cases (show false = true from e)) rfl rfl
      fun q => by rw [hubReset_port]; exact Nat.le_refl _

/-- Hub time goes on when nothing is due, so that a mark finds nothing left over (log entries 2 and 17). -/
theorem markLaw_tickOnce {s : State} (hdue : NothingDue s) : MarkLaw s.tickOnce := by
  have none : ∀ p, (s.tickOnce.port p).samplesDue = 0 := fun p => by
    rw [tickOnce_port, countDown_samplesDue, hdue.samples]
  have lease : s.tickOnce.leaseDue = false := hdue.lease
  refine ⟨fun e => ?_, fun _ => ⟨lease, none⟩, fun p => by rw [none]; decide, fun e => ?_⟩
  · rw [lease] at e
    cases e
  · rcases e with e | e | ⟨p, e⟩
    · exact of_decide_eq_true e
    · rw [lease] at e
      cases e
    · exact absurd (none p) e

theorem markLaw_poweredOn (s : State) : MarkLaw (poweredOn s) := by
  have none : ∀ p, ((poweredOn s).port p).samplesDue = 0 := fun p => by
    rw [poweredOn_port]
    rfl
  exact ⟨fun e => (by cases (show false = true from e)), fun _ => ⟨rfl, none⟩, fun p => by rw [none]; decide, fun _ => rfl⟩

theorem kept_markLaw : Kept MarkLaw where
  minor h := h.mark
  main h := h.markLaw
  reset := markLaw_poweredOn
  tick _ hdue _ := markLaw_tickOnce hdue
  pending _ _ hs := hs

/-- Settles O54: the pacing, the claim and the marks are kept by what an event does in passing, by its one change, by a
power-on reset and by hub time. -/
theorem stepKeepsPacingAndClaim : Obligations.StepKeepsPacingAndClaim := fun _ _ h =>
  ⟨kept_pacingLaw.step h, kept_claimLaw.step h, kept_markLaw.step h⟩

/-! ## Held posts (R70) -/

/-- A handle names its own descriptor. -/
theorem handleAt_index (s : State) (i : DescIndex) : handleIndex (s.handleAt i) = i :=
  (Deliveries.handle_eq_iff.mp rfl).1

theorem handleAt_generation (s : State) (i : DescIndex) : handleGeneration (s.handleAt i) = (s.desc i).generation :=
  (Deliveries.handle_eq_iff.mp rfl).2

/-- A descriptor that is HELD neither before nor after a change leaves the law of held posts. -/
theorem heldLaw_setDesc {s : State} {i : DescIndex} {d : Descriptor} (hi : ∀ m, (s.desc i).state ≠ .held m)
    (hd : ∀ m, d.state ≠ .held m) (h : HeldLaw s) : HeldLaw (s.setDesc i d) := by
  obtain ⟨hslot, hheld⟩ := heldLaw_iff.mp h
  refine heldLaw_iff.mpr ⟨fun p k hk => ?_, fun j m hj => ?_⟩
  · obtain ⟨m, ⟨hstate, hgeneration⟩, hm⟩ := hslot p k hk
    have hne : handleIndex k ≠ i := fun e => hi m (e ▸ hstate)
    exact ⟨m, ⟨by rwa [State.desc_setDesc_ne _ _ hne], by rwa [State.desc_setDesc_ne _ _ hne]⟩, hm⟩
  · have hne : j ≠ i := by
      rintro rfl
      rw [State.desc_setDesc_self] at hj
      exact hd m hj
    rw [State.desc_setDesc_ne _ _ hne] at hj
    rw [State.port_setDesc, State.handleAt, State.desc_setDesc_ne _ _ hne]
    exact hheld j m hj

/-- A POST that is held fills an empty slot (R70). -/
theorem heldLaw_holdPost {s : State} {p : Port} {i : DescIndex} {m : Message} (hi : (s.desc i).state = .opened m)
    (hm : m.source = p) (hempty : (s.port p).heldPost = none) (h : HeldLaw s) : HeldLaw (s.holdPost p i m) := by
  obtain ⟨hslot, hheld⟩ := heldLaw_iff.mp h
  have desc : ∀ j, (s.holdPost p i m).desc j
      = if j = i then { generation := (s.desc i).generation, state := .held m } else s.desc j :=
    fun j => State.desc_setDesc s i j _
  have slot : ∀ q, slotHandle ((s.holdPost p i m).port q)
      = if q = p then some (s.handleAt i) else slotHandle (s.port q) := fun q => by
    rw [holdPost_port]
    simp only [slotHandle]
    split <;> rfl
  refine heldLaw_iff.mpr ⟨fun q k hk => ?_, fun j n hj => ?_⟩
  · rw [slot] at hk
    split at hk
    · next hq =>
      cases hk
      refine ⟨m, ⟨?_, ?_⟩, hm.trans hq.symm⟩
      · rw [handleAt_index, desc, if_pos rfl]
      · rw [handleAt_index, desc, if_pos rfl, handleAt_generation]
    · obtain ⟨n, ⟨hstate, hgeneration⟩, hn⟩ := hslot q k hk
      have hne : handleIndex k ≠ i := fun e => by
        rw [e, hi] at hstate
        cases hstate
      exact ⟨n, ⟨by rwa [desc, if_neg hne], by rwa [desc, if_neg hne]⟩, hn⟩
  · rw [desc] at hj
    rw [slot, show (s.holdPost p i m).handleAt j = handleOf ((s.holdPost p i m).desc j).generation j from rfl, desc]
    split at hj
    · next hji =>
      cases hj
      rw [if_pos hm, if_pos hji, hji]
      rfl
    · next hji =>
      have held := hheld j n hj
      rw [if_neg hji, if_neg fun e => ?_]
      · exact held
      · rw [e, slotHandle, hempty] at held
        cases held

/-- A HELD message that leaves its slot, and its descriptor with it (R4, R70). -/
theorem heldLaw_unheld {s u : State} {p : Port} {i : DescIndex} {m : Message} {d : Descriptor}
    (hi : (s.desc i).state = .held m) (hp : m.source = p) (hd : ∀ n, d.state ≠ .held n) (ht : u.table = (s.setDesc i d).table)
    (hu : ∀ q, slotHandle (u.port q) = slotHandle (s.port q)) (h : HeldLaw s) : HeldLaw (u.emptySlot p) := by
  obtain ⟨hslot, hheld⟩ := heldLaw_iff.mp h
  have desc : ∀ j, (u.emptySlot p).desc j = if j = i then d else s.desc j := fun j => by
    refine Eq.trans ?_ (State.desc_setDesc s i j d)
    simp only [State.desc, State.emptySlot_table, ht]
  have slot : ∀ q, slotHandle ((u.emptySlot p).port q) = if q = p then none else slotHandle (s.port q) := fun q => by
    rw [emptySlot_port, ← hu]
    simp only [slotHandle]
    split <;> rfl
  have own : slotHandle (s.port p) = some (s.handleAt i) := hp ▸ hheld i m hi
  refine heldLaw_iff.mpr ⟨fun q k hk => ?_, fun j n hj => ?_⟩
  · rw [slot] at hk
    split at hk
    · cases hk
    · next hq =>
      obtain ⟨n, ⟨hstate, hgeneration⟩, hn⟩ := hslot q k hk
      have hne : handleIndex k ≠ i := fun e => by
        rw [e, hi] at hstate
        cases hstate
        exact hq (hn.symm.trans hp)
      exact ⟨n, ⟨by rwa [desc, if_neg hne], by rwa [desc, if_neg hne]⟩, hn⟩
  · rw [desc] at hj
    split at hj
    · exact absurd hj (hd n)
    · next hji =>
      have held := hheld j n hj
      rw [slot, State.handleAt, desc, if_neg hji, if_neg fun e => ?_]
      · exact held
      · rw [e, own, Option.some.injEq] at held
        exact hji (by rw [← handleAt_index s j, ← held, handleAt_index])

theorem Unheld.state_ne_held {g : Fin 512} {m : Message} {d : Descriptor} (h : Unheld g m d) (n : Message) :
    d.state ≠ .held n := by
  cases h <;> exact fun e => by cases e

/-- Without a HELD message and an occupied slot the law of held posts holds. -/
theorem heldLaw_of_empty {t : State} (hslot : ∀ p, slotHandle (t.port p) = none) (hd : ∀ i, (t.desc i).state = .free) :
    HeldLaw t := by
  refine heldLaw_iff.mpr ⟨fun p k hk => ?_, fun i m hm => ?_⟩
  · rw [hslot] at hk
    cases hk
  · rw [hd] at hm
    cases hm

theorem desc_hubReset (s : State) (i : DescIndex) : s.hubReset.desc i = (s.desc i).hubReset := by
  simp [State.hubReset, State.desc]

theorem state_hubReset (d : Descriptor) : d.hubReset.state = .free := by
  unfold Descriptor.hubReset
  split
  · assumption
  · rfl

theorem desc_poweredOn (s : State) (i : DescIndex) : (poweredOn s).desc i = { generation := 0, state := .free } := by
  simp [poweredOn, State.reset, State.desc]

theorem slot_modifyPort {s : State} {p : Port} {f : PortState → PortState} (h : ∀ x, slotHandle (f x) = slotHandle x)
    (q : Port) : slotHandle ((s.modifyPort p f).port q) = slotHandle (s.port q) := by
  rw [State.port_modifyPort]
  split
  · next e => rw [e, h]
  · rfl

theorem slotHandle_applyField (x : PortState) (f : ConfigField) (v : Nat) : slotHandle (x.applyField f v) = slotHandle x := by
  cases f with
  | reserved l => rfl
  | borrowCeiling => rfl
  | outstandingCap => rfl
  | paceInterval =>
    simp only [slotHandle, PortState.applyField, PortState.setPace]
    split
    · rw [Option.map_map]
      rfl
    · rfl
  | bucketDepth => rfl

theorem Main.heldLaw {c : Instr} {s t : State} (hm : Main c s t) (h : HeldLaw s) : HeldLaw t := by
  cases hm with
  | same => exact h
  | attached => exact heldLaw_of h rfl (slot_modifyPort fun _ => rfl)
  | detachBegun => exact heldLaw_of h rfl fun q => by rw [beginDetach_port]; rfl
  | @detached u p issuer _ _ hu =>
    have offline : HeldLaw (s.modifyPort p fun x => { x with session := .offline }) :=
      heldLaw_of h rfl (slot_modifyPort fun _ => rfl)
    exact heldLaw_of (hu.heldLaw_iff.mpr offline) rfl (slot_modifyPort fun _ => rfl)
  | @opened p a i ch _ hi =>
    have described := heldLaw_setDesc (i := i)
      (d := { generation := (s.desc i).generation
              state := .opened (openedMessage p (s.port p).epoch a (s.freeList.take (cellsFor a.length)) ch) })
      (fun m e => by rw [hi] at e; cases e) (fun m e => by cases e) h
    refine heldLaw_of described rfl fun q => ?_
    rw [allocate_port]
    split
    · next e =>
      rw [e]
      rfl
    · rfl
  | freed hi =>
    refine heldLaw_setDesc (fun m e => ?_) (fun m e => by cases e) h
    rcases hi with hi | ⟨d, hi⟩
    · rw [hi] at e
      cases e
    · rw [hi] at e
      cases e
  | held hi hm hslot => exact heldLaw_holdPost hi hm hslot h
  | unheld hi hp hd hu => exact heldLaw_unheld hi (hp h) hd.state_ne_held hu.table (fun q => (hu.port q).slot) h
  | delivered hi => exact heldLaw_setDesc (fun m e => by rw [hi] at e; cases e) (fun m e => by cases e) h
  | read hi => exact heldLaw_setDesc (fun m e => by rw [hi] at e; cases e) (fun m e => by cases e) h
  | configured => exact heldLaw_of h rfl (slot_modifyPort fun x => slotHandle_applyField x _ _)
  | @written p r v _ => exact heldLaw_of h rfl (slot_modifyPort fun x => by cases r <;> rfl)
  | fetched => exact heldLaw_of h rfl (slot_modifyPort fun _ => rfl)
  | marked => exact heldLaw_of h rfl fun q => by rw [markDelivered_port]; rfl
  | hubReset =>
    exact heldLaw_of_empty (fun p => by rw [hubReset_port]; rfl) fun i => by rw [desc_hubReset, state_hubReset]

theorem kept_heldLaw : Kept HeldLaw where
  minor h := h.heldLaw_iff.mpr
  main h := h.heldLaw
  reset s := heldLaw_of_empty (fun p => by rw [poweredOn_port]; rfl) fun i => by rw [desc_poweredOn]
  tick _ _ hs := heldLaw_of hs rfl fun q => by rw [tickOnce_port, slotHandle_countDown]
  pending _ _ hs := hs

/-! ## Detaches (R133, R134, R139) -/

theorem detachLaw_congr {s t : State} (hs : ∀ p, (t.port p).session = (s.port p).session)
    (he : ∀ p q, (t.port p).engine = .detachInFlight q ↔ (s.port p).engine = .detachInFlight q) (h : DetachLaw s) :
    DetachLaw t := fun p q => by
  rw [hs, he]
  exact h p q

/-- A detach that begins joins its port to the engine that carries it (R133, R134). -/
theorem detachLaw_beginDetach {s : State} {target issuer : Port} (hs : (s.port target).session = .attached)
    (he : ∃ f, (s.port issuer).engine = .accepted f) (h : DetachLaw s) : DetachLaw (s.beginDetach target issuer) := by
  obtain ⟨f, hf⟩ := he
  intro p q
  simp only [beginDetach_port]
  have law := h p q
  by_cases hp : p = target
  · subst hp
    by_cases hq : q = issuer
    · simp [hq]
    · simpa [hq, hs, Ne.symm hq] using law
  · by_cases hq : q = issuer
    · subst hq
      simpa [hp, hf, Ne.symm hp] using law
    · simpa [hp, hq] using law

/-- A detach that completes leaves its port OFFLINE, and the engine that carried it with the response (R139). -/
theorem detachLaw_detached {s u : State} {p issuer : Port} (hs : (s.port p).session = .detaching issuer)
    (hu : Calm (s.modifyPort p fun x => { x with session := .offline }) u) (r : Result) (b : List Byte)
    (h : DetachLaw s) : DetachLaw (u.answer issuer r b) := by
  have carrier : (s.port issuer).engine = .detachInFlight p := (h p issuer).mp hs
  intro a q
  have session : ((u.answer issuer r b).port a).session = if a = p then .offline else (s.port a).session := by
    rw [answer_port_eq, (hu.port a).session, State.port_modifyPort]
    split <;> rfl
  have engine : ((u.answer issuer r b).port q).engine
      = if q = issuer then .held { result := r, payload := b } else (s.port q).engine := by
    rw [answer_port_eq, hu.engine, State.port_modifyPort]
    dsimp only
    split
    · rfl
    · split
      · next e => rw [e]
      · rfl
  rw [session, engine]
  have law := h a q
  by_cases ha : a = p
  · subst ha
    by_cases hq : q = issuer
    · simp [hq]
    · have hne : (s.port q).engine ≠ .detachInFlight a := fun e => hq (by simpa [hs] using (law.mpr e).symm)
      simp [hq, hne]
  · by_cases hq : q = issuer
    · subst hq
      have hne : (s.port a).session ≠ .detaching q := fun e => ha (by simpa [carrier] using (law.mp e).symm)
      simp [ha, hne]
    · simpa [ha, hq] using law

theorem engine_hubReset_ne (e : Engine) (q : Port) : e.hubReset ≠ .detachInFlight q := by
  cases e <;> exact fun h => by cases h

theorem afterFetch_carries (e : Engine) (n : Nat) (q : Port) :
    e.afterFetch n = .detachInFlight q ↔ e = .detachInFlight q := by
  cases e with
  | held r =>
    unfold Engine.afterFetch
    dsimp only
    split <;> simp
  | idle => exact .rfl
  | accepted f => exact .rfl
  | detachInFlight p => exact .rfl

/-- A port whose session starts was OFFLINE, and so carried by no engine. -/
theorem detachLaw_attached {s : State} {p : Port} (hs : (s.port p).session = .offline) (h : DetachLaw s) :
    DetachLaw (s.modifyPort p PortState.attach) := by
  intro a q
  have engine : ((s.modifyPort p PortState.attach).port q).engine = (s.port q).engine := by
    rw [State.port_modifyPort]
    split
    · next e => rw [e, PortState.attach_engine]
    · rfl
  rw [engine, ← h a q, State.port_modifyPort]
  split
  · next e =>
    rw [e, hs]
    exact ⟨fun h => (by cases h), fun h => (by cases h)⟩
  · rfl

/-- What one port's change leaves of the law of detaches. -/
theorem detachLaw_modifyPort {s : State} {p : Port} {f : PortState → PortState} (hs : ∀ x, (f x).session = x.session)
    (he : ∀ x q, (f x).engine = .detachInFlight q ↔ x.engine = .detachInFlight q) (h : DetachLaw s) :
    DetachLaw (s.modifyPort p f) := by
  refine detachLaw_congr (fun q => ?_) (fun q r => ?_) h
  · rw [State.port_modifyPort]
    split
    · next e => rw [e, hs]
    · rfl
  · rw [State.port_modifyPort]
    split
    · next e => rw [e, he]
    · rfl

theorem Main.detachLaw {c : Instr} {s t : State} (hm : Main c s t) (h : DetachLaw s) : DetachLaw t := by
  cases hm with
  | same => exact h
  | attached _ hs => exact detachLaw_attached hs h
  | detachBegun hs _ he => exact detachLaw_beginDetach hs he h
  | detached hs _ hu => exact detachLaw_detached hs hu _ _ h
  | opened =>
    exact detachLaw_modifyPort (f := fun x => x.charge _ _) (fun _ => rfl) (fun _ _ => .rfl) h
  | freed => exact h
  | held =>
    exact detachLaw_congr (fun q => by rw [holdPost_port]) (fun q r => by rw [holdPost_port]) h
  | unheld _ _ _ hu =>
    exact detachLaw_congr (fun q => by rw [emptySlot_port]; exact (hu.port q).session)
      (fun q r => by rw [emptySlot_port]; exact (hu.port q).carries r) h
  | delivered => exact h
  | read => exact h
  | @configured p q args f v _ =>
    exact detachLaw_modifyPort (fun x => by cases f <;> rfl) (fun x r => by rw [applyField_engine]) h
  | @written p r v _ =>
    exact detachLaw_modifyPort (fun x => by cases r <;> rfl) (fun x q => by cases r <;> rfl) h
  | fetched => exact detachLaw_modifyPort (fun _ => rfl) (fun x q => afterFetch_carries _ _ q) h
  | marked =>
    exact detachLaw_congr (fun q => by rw [markDelivered_port]) (fun q r => by rw [markDelivered_port]) h
  | hubReset =>
    intro p q
    rw [hubReset_port, hubReset_port]
    exact ⟨fun e => (by cases e), fun e => absurd e (engine_hubReset_ne _ _)⟩

theorem kept_detachLaw : Kept DetachLaw where
  minor h := detachLaw_congr (fun q => (h.port q).session) fun q r => (h.port q).carries r
  main h := h.detachLaw
  reset s p q := by
    rw [poweredOn_port, poweredOn_port]
    exact ⟨fun e => (by cases e), fun e => (by cases e)⟩
  tick _ _ := detachLaw_congr (fun q => by rw [tickOnce_port, countDown_session]) fun q r => by
    rw [tickOnce_port, countDown_engine]
  pending _ _ hs := hs

/-! ## OFFLINE ports (R140) -/

theorem inNoWaiterSet_iff {s : State} {p : Port} :
    s.inNoWaiterSet p = true ↔ ∀ q l, p ∉ (s.queue q l).waiters := by
  simp only [State.inNoWaiterSet, List.all_eq_true, decide_eq_true_eq]
  constructor
  · intro h q l
    obtain ⟨hu, hr⟩ := h q (Port.mem_all q)
    cases l
    · exact hu
    · exact hr
  · exact fun h q _ => ⟨h q .urgent, h q .routine⟩

/-- The work of a detach is done when the port has no OPEN or HELD message, nothing in its queues, no marker and no place
in a waiter set (R135). -/
theorem workListDone_iff {s : State} {p : Port} :
    s.workListDone p = true ↔
      s.noUndelivered p = true ∧ Emptied (s.port p) ∧ ∀ q l, p ∉ (s.queue q l).waiters := by
  simp only [State.workListDone, Bool.and_eq_true, decide_eq_true_iff, inNoWaiterSet_iff, Bool.not_eq_true']
  constructor
  · rintro ⟨⟨⟨⟨⟨hm, hu⟩, hr⟩, hn⟩, hw⟩, hc⟩
    exact ⟨hm, ⟨hu, hr, hn, hc⟩, hw⟩
  · rintro ⟨hm, ⟨hu, hr, hn, hc⟩, hw⟩
    exact ⟨⟨⟨⟨⟨hm, hu⟩, hr⟩, hn⟩, hw⟩, hc⟩

/-- What an event may do that leaves OFFLINE ports empty: no port becomes OFFLINE, and an OFFLINE one gets nothing. -/
structure Spares (s t : State) : Prop where
  offline : ∀ p, (t.port p).session = .offline → (s.port p).session = .offline
  messages : ∀ p, (t.port p).session = .offline → s.noUndelivered p = true → t.noUndelivered p = true
  emptied : ∀ p, (t.port p).session = .offline → Emptied (s.port p) → Emptied (t.port p)
  waiters : ∀ p q l, (t.port p).session = .offline → s.noUndelivered p = true → p ∈ (t.queue q l).waiters →
    p ∈ (s.queue q l).waiters

theorem Spares.offlineLaw {s t : State} (h : Spares s t) (hs : OfflineLaw s) : OfflineLaw t := by
  intro p hp
  obtain ⟨hm, he, hw⟩ := workListDone_iff.mp (hs p (h.offline p hp))
  exact workListDone_iff.mpr
    ⟨h.messages p hp hm, h.emptied p hp he, fun q l hq => hw q l (h.waiters p q l hp hm hq)⟩

theorem Minor.spares {s t : State} (h : Minor s t) : Spares s t where
  offline p hp := (h.port p).session ▸ hp
  messages p _ hm := (noUndelivered_congr h.table p).trans hm
  emptied p hp := (h.port p).emptied ((h.port p).session ▸ hp)
  waiters p q l hp hm hq := by
    rcases (h.port q).waiters p l hq with hq | hj
    · exact hq
    · rw [hj ((h.port p).session ▸ hp)] at hm
      cases hm

/-- A change of ports that leaves what an OFFLINE port is without. -/
theorem Spares.ofPorts {s t : State} (ht : t.table = s.table)
    (hs : ∀ p, (t.port p).session = .offline → (s.port p).session = .offline)
    (he : ∀ p, Emptied (s.port p) → Emptied (t.port p))
    (hw : ∀ p q l, p ∈ (t.queue q l).waiters → p ∈ (s.queue q l).waiters) : Spares s t where
  offline := hs
  messages p _ hm := (noUndelivered_congr ht p).trans hm
  emptied p _ := he p
  waiters p q l _ _ := hw p q l

theorem Spares.modifyPort {s : State} {p : Port} {f : PortState → PortState}
    (hs : (f (s.port p)).session = .offline → (s.port p).session = .offline)
    (he : ∀ x, Emptied x → Emptied (f x) := by exact fun _ h => h)
    (hw : ∀ x, (f x).inbound = x.inbound := by exact fun _ => rfl) : Spares s (s.modifyPort p f) := by
  refine .ofPorts rfl (fun q => ?_) (fun q => ?_) fun r q l => ?_
  · rw [State.port_modifyPort]
    split
    · next e =>
      rw [e]
      exact hs
    · exact id
  · rw [State.port_modifyPort]
    split
    · next e =>
      rw [e]
      exact he _
    · exact id
  · rw [State.queue, State.port_modifyPort]
    split
    · next e =>
      rw [e, hw]
      exact id
    · exact id

theorem noUndelivered_setDesc {s : State} {i : DescIndex} {d : Descriptor} {p : Port} (h : s.noUndelivered p = true)
    (hd : ∀ m, d.state.undelivered? = some m → m.source ≠ p) : (s.setDesc i d).noUndelivered p = true := by
  refine noUndelivered_iff.mpr fun j m hj => ?_
  rw [State.desc_setDesc] at hj
  split at hj
  · exact hd m hj
  · exact noUndelivered_iff.mp h j m hj

/-- A descriptor that gets no undelivered message but one that its source had already. -/
theorem Spares.setDesc {s : State} {i : DescIndex} {d : Descriptor}
    (hd : ∀ m, d.state.undelivered? = some m → (s.desc i).state.undelivered? = some m) : Spares s (s.setDesc i d) where
  offline _ hp := hp
  messages _ _ hm := noUndelivered_setDesc hm fun m e => noUndelivered_iff.mp hm i m (hd m e)
  emptied _ _ he := he
  waiters _ _ _ _ _ hq := hq

theorem Spares.trans {s t u : State} (h : Spares s t) (k : Spares t u) : Spares s u where
  offline p hp := h.offline p (k.offline p hp)
  messages p hp hm := k.messages p hp (h.messages p (k.offline p hp) hm)
  emptied p hp he := k.emptied p hp (h.emptied p (k.offline p hp) he)
  waiters p q l hp hm hq :=
    h.waiters p q l (k.offline p hp) hm (k.waiters p q l hp (h.messages p (k.offline p hp) hm) hq)

theorem Unheld.undelivered {g : Fin 512} {m n : Message} {d : Descriptor} (h : Unheld g m d)
    (hn : d.state.undelivered? = some n) : n = m := by
  cases h <;> cases hn
  rfl

/-- A port that opens a message is ATTACHED. -/
theorem spares_allocate {s : State} {p : Port} {a : OpenArgs} {i : DescIndex} {ch : Charge}
    (hs : (s.port p).session = .attached) : Spares s (s.allocate p a i ch) := by
  have session : ∀ q, ((s.allocate p a i ch).port q).session = (s.port q).session := fun q => by
    rw [allocate_port]
    split
    · next e => rw [e, PortState.charge_session]
    · rfl
  have inbound : ∀ q, ((s.allocate p a i ch).port q).inbound = (s.port q).inbound := fun q => by
    rw [allocate_port]
    split
    · next e => rw [e, PortState.charge_inbound]
    · rfl
  refine
    { offline := fun q hq => session q ▸ hq
      messages := fun q hq hm => ?_
      emptied := fun q _ he => ?_
      waiters := fun r q l _ _ hr => ?_ }
  · have described := noUndelivered_setDesc (s := s) (i := i)
      (d := { generation := (s.desc i).generation
              state := .opened (openedMessage p (s.port p).epoch a (s.freeList.take (cellsFor a.length)) ch) }) hm
      fun m e => by
        cases e
        rintro rfl
        rw [session, show (openedMessage p _ a _ ch).source = p from rfl, hs] at hq
        cases hq
    exact (noUndelivered_congr rfl q).trans described
  · rw [allocate_port]
    split
    · next e => exact e ▸ he
    · exact he
  · simp only [State.queue, inbound] at hr
    exact hr

theorem emptied_hubReset (x : PortState) : Emptied x.hubReset := ⟨rfl, rfl, rfl, rfl⟩

theorem noUndelivered_of_free {t : State} (h : ∀ i, (t.desc i).state = .free) (p : Port) : t.noUndelivered p = true :=
  noUndelivered_iff.mpr fun i m hm => by
    rw [h] at hm
    cases hm

theorem offlineLaw_of_empty {t : State} (hd : ∀ i, (t.desc i).state = .free) (he : ∀ p, Emptied (t.port p))
    (hw : ∀ q l, (t.queue q l).waiters = []) : OfflineLaw t := fun p _ =>
  workListDone_iff.mpr ⟨noUndelivered_of_free hd p, he p, fun q l => by rw [hw]; exact List.not_mem_nil⟩

/-- A detach that completes leaves its port without anything (R135, R139). -/
theorem offlineLaw_detached {s u : State} {p issuer : Port} {r : Result} {b : List Byte}
    (hdone : s.workListDone p = true) (hu : Calm (s.modifyPort p fun x => { x with session := .offline }) u)
    (h : OfflineLaw s) : OfflineLaw (u.answer issuer r b) := by
  have offline : OfflineLaw (s.modifyPort p fun x => { x with session := .offline }) := by
    have same : ∀ q, (s.modifyPort p fun x => { x with session := .offline }).workListDone q = s.workListDone q := fun q => by
      refine Bool.eq_iff_iff.mpr ?_
      have emptied : Emptied ((s.modifyPort p fun x => { x with session := .offline }).port q) ↔ Emptied (s.port q) := by
        rw [State.port_modifyPort]
        split
        · next e => rw [e]
        · rfl
      have queue : ∀ a l, (s.modifyPort p fun x => { x with session := .offline }).queue a l = s.queue a l := fun a l => by
        rw [State.queue, State.port_modifyPort]
        split
        · next e =>
          rw [e]
          rfl
        · rfl
      simp only [workListDone_iff, emptied, queue, noUndelivered_congr (s.modifyPort_table p _)]
    intro q hq
    rw [same]
    by_cases e : q = p
    · exact e ▸ hdone
    · rw [State.port_modifyPort_ne _ _ e] at hq
      exact h q hq
  exact (hu.spares.trans (.modifyPort id)).offlineLaw offline

theorem Main.offlineLaw {c : Instr} {s t : State} (hm : Main c s t) (h : OfflineLaw s) : OfflineLaw t := by
  cases hm with
  | same => exact h
  | attached => exact (Spares.modifyPort (fun e => by cases e)).offlineLaw h
  | detachBegun hs =>
    refine Spares.offlineLaw (.trans (.modifyPort (fun e => by cases e)) (.modifyPort ?_)) h
    exact id
  | detached _ hdone hu => exact offlineLaw_detached hdone hu h
  | opened hs => exact (spares_allocate hs).offlineLaw h
  | freed => exact (Spares.setDesc (fun m e => by cases e)).offlineLaw h
  | held hi =>
    refine Spares.offlineLaw (.trans (.setDesc fun m e => ?_) (.modifyPort id)) h
    rw [hi]
    exact e
  | unheld hi _ hd hu =>
    refine Spares.offlineLaw (.trans (.setDesc fun m e => ?_) (hu.spares.trans (.modifyPort id))) h
    rw [hi, hd.undelivered e]
    rfl
  | delivered => exact (Spares.setDesc (fun m e => by cases e)).offlineLaw h
  | read => exact (Spares.setDesc (fun m e => by cases e)).offlineLaw h
  | @configured p q args f v _ =>
    refine (Spares.modifyPort (fun e => ?_) (fun x e => ?_) fun x => ?_).offlineLaw h
    · cases f <;> exact e
    · cases f <;> exact e
    · cases f <;> rfl
  | @written p r v _ =>
    refine (Spares.modifyPort (fun e => ?_) (fun x e => ?_) fun x => ?_).offlineLaw h
    · cases r <;> exact e
    · cases r <;> exact e
    · cases r <;> rfl
  | fetched => exact (Spares.modifyPort id).offlineLaw h
  | marked =>
    refine Spares.offlineLaw (s := s) (.ofPorts rfl (fun p => ?_) (fun p => ?_) fun p q l => ?_) h
    · rw [markDelivered_port]
      exact id
    · rw [markDelivered_port]
      exact id
    · rw [State.queue, markDelivered_port]
      cases l <;> exact id
  | hubReset =>
    refine offlineLaw_of_empty (fun i => ?_) (fun p => ?_) fun q l => ?_
    · rw [desc_hubReset, state_hubReset]
    · rw [hubReset_port]
      exact emptied_hubReset _
    · rw [State.queue, hubReset_port]
      cases l <;> rfl

theorem kept_offlineLaw : Kept OfflineLaw where
  minor h := h.spares.offlineLaw
  main h := h.offlineLaw
  reset s := by
    refine offlineLaw_of_empty (fun i => by rw [desc_poweredOn]) (fun p => ?_) fun q l => ?_
    · rw [poweredOn_port]
      exact ⟨rfl, rfl, rfl, rfl⟩
    · rw [State.queue, poweredOn_port]
      cases l <;> rfl
  tick s _ := by
    refine Spares.offlineLaw (s := s) (.ofPorts rfl (fun p => ?_) (fun p => ?_) fun p q l => ?_)
    · rw [tickOnce_port, countDown_session]
      exact id
    · rw [tickOnce_port, countDown_eq]
      exact id
    · rw [State.queue, tickOnce_port, countDown_eq]
      exact id
  pending _ _ hs := hs

/-- Settles O59: the held posts, the detaches and the OFFLINE ports are kept by what an event does in passing, by its one
change, by a power-on reset and by hub time. -/
theorem stepKeepsSlotsAndSessions : Obligations.StepKeepsSlotsAndSessions := fun _ _ h =>
  ⟨kept_heldLaw.step h, kept_detachLaw.step h, kept_offlineLaw.step h⟩

/-! ## The life of a descriptor (R4, R5, R11) -/

/-- What one event may do to a descriptor. -/
structure Lives (d e : Descriptor) : Prop where
  stays : e.state ≠ .free → e.generation = d.generation ∧ MayBecome d.state e.state
    ∧ ∀ m n : Message, d.state.message? = some m → e.state.message? = some n →
        n = { m with fault := n.fault } ∧ (m.fault = true → n.fault = true)
  frees : e.state = .free → e.generation = if d.state = .free then d.generation else d.generation + 1

theorem Lives.refl (d : Descriptor) : Lives d d where
  stays hd := by
    refine ⟨rfl, ?_, fun m n hm hn => ?_⟩
    · cases hs : d.state with
      | free => exact absurd hs hd
      | opened m => trivial
      | held m => trivial
      | live m dl => trivial
    · rw [hm] at hn
      cases hn
      exact ⟨rfl, id⟩
  frees hd := by rw [if_pos hd]

/-- A descriptor that is freed rises to its next generation (R11). -/
theorem Lives.freed {d : Descriptor} (hd : d.state ≠ .free) : Lives d { generation := d.generation + 1, state := .free } where
  stays h := absurd rfl h
  frees _ := by rw [if_neg hd]

/-- A descriptor that OPEN takes has no message before (R4, R10). -/
theorem Lives.opened {d : Descriptor} (hd : d.state = .free) (m : Message) :
    Lives d { generation := d.generation, state := .opened m } where
  stays _ := ⟨rfl, by rw [hd]; trivial, fun a b ha => by rw [hd] at ha; cases ha⟩
  frees h := by cases h

/-- A descriptor whose message goes on, its fault mark set at most. -/
theorem Lives.goesOn {d : Descriptor} {e : DescState} {m n : Message} (hd : d.state.message? = some m)
    (he : e.message? = some n) (hm : MayBecome d.state e) (hn : n = { m with fault := n.fault })
    (hf : m.fault = true → n.fault = true) : Lives d { generation := d.generation, state := e } where
  stays _ := by
    refine ⟨rfl, hm, fun a b ha hb => ?_⟩
    cases ha.symm.trans hd
    cases hb.symm.trans he
    exact ⟨hn, hf⟩
  frees h := by
    rw [show e = .free from h] at he
    cases he

/-- One descriptor that lives on, and every other as it is. -/
theorem lives_setDesc {s : State} {i : DescIndex} {d : Descriptor} (h : Lives (s.desc i) d) (j : DescIndex) :
    Lives (s.desc j) ((s.setDesc i d).desc j) := by
  rw [State.desc_setDesc]
  split
  · next e =>
    rw [e]
    exact h
  · exact .refl _

theorem Unheld.lives {d e : Descriptor} {m : Message} (hd : d.state = .held m) (h : Unheld d.generation m e) : Lives d e := by
  have message : d.state.message? = some m := by
    rw [hd]
    rfl
  cases h with
  | freed => exact .freed fun e => by rw [hd] at e; cases e
  | reopened => exact .goesOn message rfl (by rw [hd]; trivial) rfl id
  | delivered dl => exact .goesOn message rfl (by rw [hd]; trivial) rfl id

theorem Main.lives {c : Instr} {s t : State} (hm : Main c s t) (j : DescIndex) : Lives (s.desc j) (t.desc j) := by
  have table : ∀ u v : State, v.table = u.table → v.desc j = u.desc j := fun u v e => by simp only [State.desc, e]
  cases hm with
  | same => exact .refl _
  | attached => exact .refl _
  | detachBegun => exact .refl _
  | detached _ _ hu =>
    rw [State.answer_desc, table s _ hu.table]
    exact .refl _
  | opened _ hi => exact lives_setDesc (.opened hi _) j
  | @freed i m hi =>
    refine lives_setDesc (.freed fun e => ?_) j
    rcases hi with hi | ⟨d, hi⟩
    · rw [hi] at e
      cases e
    · rw [hi] at e
      cases e
  | held hi => exact lives_setDesc (.goesOn (by rw [hi]; rfl) rfl (by rw [hi]; trivial) rfl id) j
  | @unheld u p i m d hi _ hd hu =>
    rw [State.emptySlot_desc, table (s.setDesc i d) _ hu.table]
    exact lives_setDesc (hd.lives hi) j
  | delivered hi => exact lives_setDesc (.goesOn (by rw [hi]; rfl) rfl (by rw [hi]; trivial) rfl id) j
  | read hi hn hf => exact lives_setDesc (.goesOn (by rw [hi]; rfl) rfl (by rw [hi]; trivial) hn hf) j
  | configured => exact .refl _
  | written => exact .refl _
  | fetched => exact .refl _
  | marked => exact .refl _
  | hubReset =>
    rw [desc_hubReset]
    unfold Descriptor.hubReset
    split
    · exact .refl _
    · next h => exact .freed h

/-- What an event does in passing leaves the table, so that a descriptor lives as the event's one change has it. -/
theorem Run.lives {c : Instr} {s t : State} (h : Run c s t) (j : DescIndex) : Lives (s.desc j) (t.desc j) := by
  obtain ⟨u, v, hsu, huv, hvt⟩ := h
  have before : u.desc j = s.desc j := by simp only [State.desc, hsu.table]
  have behind : t.desc j = v.desc j := by simp only [State.desc, hvt.table]
  rw [← before, behind]
  exact huv.lives j

/-- Settles O50: every row but a power-on reset makes one change of the table at most. -/
theorem descriptorLifeKept : Obligations.DescriptorLifeKept := by
  intro c s t i h
  by_cases hc : c = .powerOnReset
  · subst hc
    cases h
    have free : ((poweredOn s).desc i).state = .free := by rw [desc_poweredOn]
    refine ⟨fun hfree => absurd free hfree, fun _ => ?_⟩
    rw [if_pos rfl]
    exact congrArg Descriptor.generation (desc_poweredOn s i)
  · obtain ⟨hstays, hfrees⟩ := (exec_run h hc).lives i
    refine ⟨hstays, fun hf => ?_⟩
    rw [if_neg hc]
    exact hfrees hf

/-! ## What named events alone change (R98, R101, R122, R129, R148, R167) -/

/-- What an event of row `c` may change of the protected state of port `q`. -/
structure Protected (c : Instr) (q : Port) (x y : PortState) : Prop where
  epoch : (y.epoch = x.epoch ∧ (y.session = .attached → x.session = .attached))
    ∨ ∃ args, c = .attach q args ∧ y.epoch = x.epoch + 1#8
  config : y.config = x.config ∨ ∃ p args, c = .configure p args
  enables : y.enables = x.enables ∨ (∃ v, c = .eventEnable q v) ∨ ∃ bytes, c = .regWrite q bytes
  deadline : y.deadline = x.deadline ∨ (∃ l v, c = .deadlineWrite q l v) ∨ (∃ bytes, c = .regWrite q bytes)
    ∨ ∃ args, c = .attach q args
  threshold : y.threshold = x.threshold ∨ (∃ v, c = .meterThreshold q v) ∨ ∃ bytes, c = .regWrite q bytes

theorem Protected.of_eq {c : Instr} {q : Port} {x y : PortState} (he : y.epoch = x.epoch)
    (hs : y.session = .attached → x.session = .attached) (hc : y.config = x.config) (hn : y.enables = x.enables)
    (hd : y.deadline = x.deadline) (ht : y.threshold = x.threshold) : Protected c q x y :=
  ⟨.inl ⟨he, hs⟩, .inl hc, .inl hn, .inl hd, .inl ht⟩

theorem Protected.refl (c : Instr) (q : Port) (x : PortState) : Protected c q x x := .of_eq rfl id rfl rfl rfl rfl

/-- What an event does in passing before and after its one change is seen by none of these. -/
theorem Protected.between {c : Instr} {q : Port} {joins joins' : Port → Prop} {x y z w : PortState}
    (h : PortMinor joins x y) (k : Protected c q y z) (l : PortMinor joins' z w) : Protected c q x w := by
  obtain ⟨epoch, config, enables, deadline, threshold⟩ := k
  rw [h.epoch, h.session] at epoch
  rw [h.config] at config
  rw [h.enables] at enables
  rw [h.deadline] at deadline
  rw [h.threshold] at threshold
  refine ⟨?_, ?_, ?_, ?_, ?_⟩
  · rw [l.epoch, l.session]
    exact epoch
  · rw [l.config]
    exact config
  · rw [l.enables]
    exact enables
  · rw [l.deadline]
    exact deadline
  · rw [l.threshold]
    exact threshold

/-- A change of one port that protects each other port by leaving it. -/
theorem Protected.modifyPort {c : Instr} {s : State} {p : Port} {f : PortState → PortState}
    (h : Protected c p (s.port p) (f (s.port p))) (q : Port) : Protected c q (s.port q) ((s.modifyPort p f).port q) := by
  rw [State.port_modifyPort]
  split
  · next e =>
    rw [e]
    exact h
  · exact .refl _ _ _

theorem Protected.written {c : Instr} {s : State} {p : Port} {r : WritableRegister} {v : Word}
    (hc : WritesRegister c p r v) (q : Port) : Protected c q (s.port q) ((s.writeRegister p r v).port q) := by
  have same := Protected.refl c p (s.port p)
  refine .modifyPort ?_ q
  cases r with
  | eventFlags => exact .of_eq rfl id rfl rfl rfl rfl
  | eventEnable => exact { same with enables := .inr (hc.elim (fun ⟨_, e⟩ => .inr ⟨_, e⟩) fun e => .inl ⟨v, e⟩) }
  | deadline l =>
    exact { same with deadline := .inr (hc.elim (fun ⟨_, e⟩ => .inr (.inl ⟨_, e⟩)) fun e => .inl ⟨l, v, e⟩) }
  | meterThreshold => exact { same with threshold := .inr (hc.elim (fun ⟨_, e⟩ => .inr ⟨_, e⟩) fun e => .inl ⟨v, e⟩) }

theorem Main.protected {c : Instr} {s t : State} (hm : Main c s t) (q : Port) : Protected c q (s.port q) (t.port q) := by
  cases hm with
  | same => exact .refl _ _ _
  | @attached p args hc =>
    refine .modifyPort ⟨.inr ⟨args, hc, rfl⟩, .inl rfl, .inl rfl, .inr (.inr (.inr ⟨args, hc⟩)), .inl rfl⟩ q
  | detachBegun =>
    rw [beginDetach_port]
    refine .of_eq rfl (fun e => ?_) rfl rfl rfl rfl
    dsimp only at e
    split at e
    · cases e
    · exact e
  | @detached u p issuer _ _ hu =>
    have offline : Protected c q (s.port q) ((s.modifyPort p fun x => { x with session := .offline }).port q) :=
      .modifyPort (.of_eq rfl (fun e => by cases e) rfl rfl rfl rfl) q
    rw [answer_port_eq]
    have passed := Protected.between (.refl (joins := fun _ => True) _) offline (hu.port q)
    obtain ⟨epoch, config, enables, deadline, threshold⟩ := passed
    exact ⟨epoch, config, enables, deadline, threshold⟩
  | opened =>
    rw [allocate_port]
    split
    · next e =>
      subst e
      exact .of_eq rfl id rfl rfl rfl rfl
    · exact .refl _ _ _
  | freed => exact .refl _ _ _
  | held =>
    rw [holdPost_port]
    exact .of_eq rfl id rfl rfl rfl rfl
  | unheld _ _ _ hu =>
    rw [emptySlot_port]
    have passed := hu.port q
    exact .of_eq passed.epoch (fun e => passed.session ▸ e) passed.config passed.enables passed.deadline passed.threshold
  | delivered => exact .refl _ _ _
  | read => exact .refl _ _ _
  | @configured p r args f v hc =>
    refine .modifyPort ⟨.inl ⟨?_, fun e => ?_⟩, .inr ⟨p, args, hc⟩, .inl ?_, .inl ?_, .inl ?_⟩ q
    · cases f <;> rfl
    · cases f <;> exact e
    · cases f <;> rfl
    · cases f <;> rfl
    · cases f <;> rfl
  | written hc => exact .written hc q
  | fetched => exact .modifyPort (.of_eq rfl id rfl rfl rfl rfl) q
  | marked =>
    rw [markDelivered_port]
    exact .of_eq rfl id rfl rfl rfl rfl
  | hubReset =>
    rw [hubReset_port]
    exact .of_eq rfl (fun e => by cases e) rfl rfl rfl rfl

/-- No event but a power-on reset touches hub time, REFCLK or the waiting events. -/
theorem Main.outside {c : Instr} {s t : State} (hm : Main c s t) :
    t.tick = s.tick ∧ t.refclk = s.refclk ∧ t.pending = s.pending := by
  cases hm with
  | detached _ _ hu => exact ⟨hu.tick, hu.refclk, hu.pending⟩
  | unheld _ _ _ hu => exact ⟨hu.tick, hu.refclk, hu.pending⟩
  | _ => exact ⟨rfl, rfl, rfl⟩

/-- Settles O51: what an event does in passing protects this state, and its one change is of a row that is named. -/
theorem protectedStateKept : Obligations.ProtectedStateKept := by
  intro c s t q h hc
  obtain ⟨u, v, hsu, huv, hvt⟩ := exec_run h hc
  obtain ⟨htick, hrefclk, hpending⟩ := huv.outside
  obtain ⟨epoch, config, enables, deadline, threshold⟩ := Protected.between (hsu.port q) (huv.protected q) (hvt.port q)
  exact ⟨hvt.tick.trans (htick.trans hsu.tick), hvt.refclk.trans (hrefclk.trans hsu.refclk),
    hvt.pending.trans (hpending.trans hsu.pending), epoch, config, enables, deadline, threshold⟩

/-! ## Latched flags (R120) -/

/-- The ways by which a flag of a port may go, of an event of row `c` that is no power-on reset. -/
def Clears (c : Instr) (q : Port) (f : LatchedFlag) : Prop :=
  (∃ v, c = .eventFlags q v) ∨ (∃ rest, c = .regWrite q (0x82#8 :: 0x18#8 :: rest))
    ∨ (f ≠ .hubReset ∧ ∃ args, c = .attach q args) ∨ (f ≠ .hubReset ∧ ∃ p args, c = .hubReset p args)

theorem shows_modifyPort {c : Instr} {s : State} {p : Port} {g : PortState → PortState} {f : LatchedFlag}
    (h : (s.port p).shows f = true → (g (s.port p)).shows f = true ∨ Clears c p f) (q : Port)
    (hq : (s.port q).shows f = true) : ((s.modifyPort p g).port q).shows f = true ∨ Clears c q f := by
  rw [State.port_modifyPort]
  split
  · next e =>
    subst e
    exact h hq
  · exact .inl hq

theorem shows_hubReset_mask (x : PortState) : ({ x with latched := LatchedFlag.hubReset.mask } : PortState).shows .hubReset = true := by
  simp only [PortState.shows]
  decide

/-- ATTACH keeps HUB_RESET and clears the others (R131). -/
theorem shows_attach {x : PortState} (h : x.shows .hubReset = true) : x.attach.shows .hubReset = true := by
  have mask : LatchedFlag.hubReset.mask.getLsbD LatchedFlag.hubReset.bit = true := by decide
  simp only [PortState.shows] at h
  simp only [PortState.attach, PortState.shows, BitVec.getLsbD_and, h, mask, Bool.and_self]

theorem Main.shows {c : Instr} {s t : State} {f : LatchedFlag} (hm : Main c s t) (q : Port)
    (hq : (s.port q).shows f = true) : (t.port q).shows f = true ∨ Clears c q f := by
  cases hm with
  | same => exact .inl hq
  | @attached p args hc =>
    refine shows_modifyPort (fun hp => ?_) q hq
    by_cases hf : f = .hubReset
    · subst hf
      exact .inl (shows_attach hp)
    · exact .inr (.inr (.inr (.inl ⟨hf, args, hc⟩)))
  | detachBegun =>
    rw [beginDetach_port]
    exact .inl hq
  | @detached u p issuer _ _ hu =>
    have offline : ((s.modifyPort p fun x => { x with session := .offline }).port q).shows f = true := by
      rw [State.port_modifyPort]
      split
      · next e => exact e ▸ hq
      · exact hq
    rw [answer_port_eq]
    exact .inl ((hu.port q).shows f offline)
  | opened => exact shows_modifyPort (g := fun x => x.charge _ _) .inl q hq
  | freed => exact .inl hq
  | held =>
    rw [holdPost_port]
    exact .inl hq
  | unheld _ _ _ hu =>
    rw [emptySlot_port]
    exact .inl ((hu.port q).shows f hq)
  | delivered => exact .inl hq
  | read => exact .inl hq
  | @configured p r args g v _ => exact shows_modifyPort (fun h => .inl (by cases g <;> exact h)) q hq
  | @written p r v hc =>
    refine shows_modifyPort (fun h => ?_) q hq
    cases r with
    | eventFlags => exact .inr (hc.elim (fun ⟨rest, e⟩ => .inr (.inl ⟨rest, e⟩)) fun e => .inl ⟨v, e⟩)
    | eventEnable => exact .inl h
    | deadline l => exact .inl h
    | meterThreshold => exact .inl h
  | fetched => exact shows_modifyPort .inl q hq
  | marked =>
    rw [markDelivered_port]
    exact .inl hq
  | @hubReset p args hc =>
    rw [hubReset_port]
    by_cases hf : f = .hubReset
    · subst hf
      exact .inl (shows_hubReset_mask (s.port q))
    · exact .inr (.inr (.inr (.inr ⟨hf, p, args, hc⟩)))

/-- Settles O52: what an event does in passing loses no latched flag, and of the changes that an event makes once, those of
R120 alone do. -/
theorem latchedFlagsStay : Obligations.LatchedFlagsStay := by
  intro c s t q f h hq
  by_cases hc : c = .powerOnReset
  · exact .inr (.inr (.inr (.inr (.inr hc))))
  · obtain ⟨u, v, hsu, huv, hvt⟩ := exec_run h hc
    rcases huv.shows q ((hsu.port q).shows f hq) with hv | hflags | hframe | hattach | hreset
    · exact .inl ((hvt.port q).shows f hv)
    · exact .inr (.inl hflags)
    · exact .inr (.inr (.inl hframe))
    · exact .inr (.inr (.inr (.inl hattach)))
    · exact .inr (.inr (.inr (.inr (.inl hreset))))

/-! ## Held responses (R179) -/

/-- Of the changes that an event makes once, a FETCH alone takes a held response, where detaches and engines agree. -/
theorem Main.response {c : Instr} {s t : State} {p : Port} {r : Response} (hm : Main c s t) (hlaw : DetachLaw s)
    (hc : ∀ n, c ≠ .fetch p n) (h : (s.port p).engine = .held r) : (t.port p).engine = .held r := by
  have kept : ∀ {q : Port} {f : PortState → PortState}, (∀ x, (f x).engine = x.engine) →
      ((s.modifyPort q f).port p).engine = .held r := fun {q f} hf => by
    rw [State.port_modifyPort]
    split
    · next e => rw [hf, ← e, h]
    · exact h
  cases hm with
  | same => exact h
  | attached => exact kept PortState.attach_engine
  | detachBegun _ _ he =>
    obtain ⟨f, hf⟩ := he
    rw [beginDetach_port]
    dsimp only
    split
    · next e =>
      rw [← e, h] at hf
      cases hf
    · exact h
  | @detached u q issuer hs _ hu =>
    have carrier := (hlaw q issuer).mp hs
    rw [answer_port_eq]
    dsimp only
    split
    · next e =>
      rw [← e, h] at carrier
      cases carrier
    · rw [hu.engine]
      exact kept fun _ => rfl
  | opened => exact kept (f := fun x => x.charge _ _) fun _ => rfl
  | freed => exact h
  | held =>
    rw [holdPost_port]
    exact h
  | unheld _ _ _ hu =>
    rw [emptySlot_port]
    exact (hu.engine p).trans h
  | delivered => exact h
  | read => exact h
  | configured => exact kept fun x => applyField_engine x _ _
  | @written q w v _ => exact kept fun x => by cases w <;> rfl
  | @fetched q n hn =>
    rw [State.port_modifyPort]
    split
    · next e => exact absurd (e ▸ hn) (hc n)
    · exact h
  | marked =>
    rw [markDelivered_port]
    exact h
  | hubReset =>
    rw [hubReset_port]
    simp only [PortState.hubReset, h, Engine.hubReset]

/-- A FETCH frame of a port with a held response leaves it, or takes it at its CRC byte (R180). -/
theorem fetchFrame_response {s : State} {p : Port} {r : Response} (n : Nat) (h : (s.port p).engine = .held r) :
    ((s.fetchFrame p n).port p).engine = .held r
      ∨ (r.payload.length + 4 ≤ n ∧ ((s.fetchFrame p n).port p).engine = .idle) := by
  have released : ∀ t : State, (t.port p).engine = .held r →
      ((t.modifyPort p fun x => { x with engine := x.engine.afterFetch n }).port p).engine = .held r
        ∨ (r.payload.length + 4 ≤ n
          ∧ ((t.modifyPort p fun x => { x with engine := x.engine.afterFetch n }).port p).engine = .idle) := fun t ht => by
    simp only [State.port_modifyPort_self, ht, Engine.afterFetch]
    split
    · next hn => exact .inr ⟨hn, rfl⟩
    · exact .inl rfl
  unfold State.fetchFrame
  split
  · exact .inl h
  · unfold State.frame
    split
    · refine .inl ?_
      rw [State.endPeriod, State.port_modifyPort_self]
      exact h
    · exact released _ (by rw [State.port_modifyPort_self]; exact h)
    · exact released _ (by rw [State.port_modifyPort_self]; exact h)

/-- Settles O19: what an event does in passing keeps every held response, and of the changes that an event makes once, a
FETCH of the port alone takes one. -/
theorem heldResponseStays : Obligations.HeldResponseStays := by
  intro c s t p r hlaw hr h
  by_cases hc : c = .powerOnReset
  · subst hc
    cases h
    exact .inr (.inr ⟨rfl, congrArg PortState.engine (poweredOn_port s p)⟩)
  · by_cases hfetch : ∃ n, c = .fetch p n
    · obtain ⟨n, rfl⟩ := hfetch
      cases h
      rcases fetchFrame_response n hr with hkept | ⟨hn, hidle⟩
      · exact .inl hkept
      · exact .inr (.inl ⟨n, hn, rfl, hidle⟩)
    · obtain ⟨u, v, hsu, huv, hvt⟩ := exec_run h hc
      refine .inl ((hvt.port p).response r (huv.response ?_ (fun n e => hfetch ⟨n, e⟩) ((hsu.port p).response r hr)))
      exact kept_detachLaw.minor hsu hlaw

end Events
end Sys2Proof
end

section
/-! PROOFS. No step stops: in a lawful state no event finds a dangling entry, a lost held post, an empty free list or a broken
chain, and every law is kept (log entry 13). -/

namespace Sys2Proof
namespace Steps

open Sys2Proof.Machine Sys2Proof.Safety Sys2Proof.Events

-- One theorem after the other: side by side their elaborations hold more threads than the sandbox has room for.
set_option Elab.async false

/-! ## What the faults of the model ask for -/

/-- A chain that is long enough has every word asked for (R16). -/
theorem wordAddresses_total {chain : List CellIndex} {w count : Nat} (h : ∀ i < count, (w + i) / 8 < chain.length) :
    ∃ l, wordAddresses chain w count = some l := by
  induction count generalizing w with
  | zero => exact ⟨[], rfl⟩
  | succ n ih =>
    obtain ⟨rest, hrest⟩ := ih (w := w + 1) fun i hi => by
      have := h (i + 1) (by omega)
      rwa [Nat.add_assoc, Nat.add_comm 1 i]
    have first : w / 8 < chain.length := h 0 (by omega)
    exact ⟨_, by rw [wordAddresses, List.getElem?_eq_getElem first, hrest]⟩

/-- A range of bytes within 32 bytes a cell has all its words (R2, R16). -/
theorem wordAddresses_of_range {chain : List CellIndex} {offset count : Nat} (hc : 1 ≤ chain.length)
    (h : offset + count ≤ 32 * chain.length) :
    ∃ l, wordAddresses chain (firstWord offset) (wordCount offset count) = some l :=
  wordAddresses_total fun i hi => by
    unfold firstWord
    unfold wordCount at hi
    omega

/-- What a state has that an event needs so as not to stop (log entry 13). -/
structure Sound (s : State) : Prop where
  entry : EntryLaw s
  held : HeldLaw s
  message : MessageLaw s
  grants : ∀ {p : Port} {l : Lane} {k : Nat} {c : Charge}, s.grant p l k = some c → k ≤ s.freeList.length

theorem sound_of_lawful {s : State} (h : Lawful s) : Sound s where
  entry := h.entry
  held := h.held
  message := h.message
  grants hg := by
    rw [← State.grant_total hg]
    exact Books.grant_le_freeList h.freeCell hg

theorem grant_congr {s t : State} (h : Books.SameBooks s t) (p : Port) (l : Lane) (k : Nat) :
    t.grant p l k = s.grant p l k := by
  simp only [State.grant, h.config p, h.reservedUse p, h.borrowed p, h.sharedCapacity, h.totalBorrowed]

/-- What an event does in passing leaves what the others need. -/
theorem Sound.passing {s t : State} (h : Sound s) (hminor : Minor s t) (hbooks : Books.SameBooks s t)
    (hmail : Deliveries.mail t = Deliveries.mail s) : Sound t where
  entry := (Deliveries.entryLaw_iff t).mpr (hmail ▸ (Deliveries.entryLaw_iff s).mp h.entry)
  held := hminor.heldLaw_iff.mpr h.held
  message := Books.messageLaw_step (.same hbooks) h.message
  grants hg := by
    rw [hbooks.freeList]
    exact h.grants ((grant_congr hbooks _ _ _).symm.trans hg)

theorem Sound.commandFrame {s : State} (h : Sound s) (p : Port) (bytes : List Byte) : Sound (s.commandFrame p bytes) :=
  h.passing (.commandFrame s p bytes) (.commandFrame s p bytes) (Deliveries.mail_commandFrame s p bytes)

theorem Sound.renewLease {s : State} (h : Sound s) (p : Port) : Sound (s.renewLease p) :=
  h.passing (Calm.renewLease s p).toMinor (.renewLease s p) (Deliveries.mail_renewLease s p)

theorem Sound.message_of {s : State} (h : Sound s) {i : DescIndex} {m : Message} (hi : (s.desc i).state.message? = some m) :
    1 ≤ m.chain.length ∧ m.length ≤ 32 * m.chain.length := by
  obtain ⟨hmin, -, hchain, -⟩ := h.message m (Deliveries.mem_messages hi)
  unfold cellsFor at hchain
  omega

/-- The head of a queue is never a dangling entry (R91). -/
theorem Sound.head {s : State} (h : Sound s) (p : Port) (l : Lane) : ∃ o, s.head p l = some o := by
  unfold State.head
  split
  · exact ⟨none, rfl⟩
  · next e rest he =>
    have hlive := h.entry p l e (by rw [he]; exact List.mem_cons_self)
    split
    · exact ⟨_, rfl⟩
    · next hnone =>
      rw [hnone] at hlive
      cases hlive

/-- The queue whose head entry has a handle is not empty. -/
theorem entries_of_headLane {s : State} {p : Port} {h : Handle} {l : Lane} (hl : s.headLane p h = some l) :
    ((s.queue p l).entries.head?.map Entry.handle) = some h := by
  unfold State.headLane at hl
  split at hl
  · next hu =>
    cases hl
    exact hu
  · split at hl
    · next hr =>
      cases hl
      exact hr
    · cases hl

theorem Sound.head_of_lane {s : State} (h : Sound s) {p : Port} {g : Handle} {l : Lane} (hl : s.headLane p g = some l) :
    ∃ hd, s.head p l = some (some hd) := by
  obtain ⟨o, ho⟩ := h.head p l
  cases o with
  | some hd => exact ⟨hd, ho⟩
  | none =>
    have hentries := entries_of_headLane hl
    unfold State.head at ho
    split at ho
    · next hnil =>
      rw [hnil] at hentries
      cases hentries
    · split at ho <;> cases ho

/-! ## Every row answers a next state -/

/-- An outcome that is a next state: no fault and no refusal of the model. -/
def Answers (o : StepOutcome) : Prop := ∃ t, o = .next t

@[simp] theorem answers_next (t : State) : Answers (.next t) := ⟨t, rfl⟩

@[simp] theorem answers_refuse (p : Port) (r : Result) (s : State) : Answers (refuse p r s) := ⟨_, rfl⟩

/-- A command row answers if the taking of its command does. -/
theorem answers_issue {p : Port} {code : Byte} {args : List Byte} {body : List Byte → State → StepOutcome} {s : State}
    (hs : Sound s) (h : ∀ as t, Sound t → Answers (body as t)) : Answers (issue p code args body s) := by
  rcases issue_cases p code args body s with e | e | ⟨t, ht, -, e⟩
  · rw [e]
    exact answers_next _
  · rw [e]
    exact answers_next _
  · have sound : Sound t := by
      rcases ht with rfl | rfl
      · exact hs
      · exact hs.commandFrame p _
    rw [e]
    unfold takeCommand
    split
    · exact h _ _ (sound.renewLease p)
    · exact answers_refuse _ _ _

/-! ### Commands with no fault: every branch answers or refuses -/

theorem answers_attachBody (p : Port) (args : List Byte) (s : State) : Answers (attachBody p args s) := by
  unfold attachBody
  split <;> simp

theorem answers_detachBody (p : Port) (args : List Byte) (s : State) : Answers (detachBody p args s) := by
  unfold detachBody
  split <;> simp

theorem answers_forceDetachBody (p : Port) (args : List Byte) (s : State) : Answers (forceDetachBody p args s) := by
  unfold forceDetachBody
  repeat' split
  all_goals simp

theorem answers_abandonBody (p : Port) (args : List Byte) (s : State) : Answers (abandonBody p args s) := by
  unfold abandonBody
  repeat' split
  all_goals simp

theorem answers_postDecision (p : Port) (i : DescIndex) (m : Message) (s : State) : Answers (postDecision p i m s) := by
  unfold postDecision postNow
  dsimp only
  repeat' split
  all_goals simp

theorem answers_postBody (p : Port) (args : List Byte) (s : State) : Answers (postBody p args s) := by
  unfold postBody
  repeat' split
  all_goals simp [answers_postDecision]

theorem answers_noticesBody (p : Port) (args : List Byte) (s : State) : Answers (noticesBody p args s) := by
  unfold noticesBody
  repeat' split
  all_goals simp

theorem answers_accountBody (p : Port) (args : List Byte) (s : State) : Answers (accountBody p args s) := by
  unfold accountBody
  split <;> simp

theorem answers_metersBody (p : Port) (args : List Byte) (s : State) : Answers (metersBody p args s) := by
  unfold metersBody
  dsimp only
  repeat' split
  all_goals simp

theorem answers_claimBody (p : Port) (args : List Byte) (s : State) : Answers (claimBody p args s) := by
  unfold claimBody
  repeat' split
  all_goals simp

theorem answers_releaseBody (p : Port) (args : List Byte) (s : State) : Answers (releaseBody p args s) := by
  unfold releaseBody
  split <;> simp

theorem answers_configureBody (p : Port) (args : List Byte) (s : State) : Answers (configureBody p args s) := by
  unfold configureBody
  dsimp only
  repeat' split
  all_goals simp

theorem answers_configReadBody (p : Port) (args : List Byte) (s : State) : Answers (configReadBody p args s) := by
  unfold configReadBody
  repeat' split
  all_goals simp

theorem answers_hubResetBody (p : Port) (args : List Byte) (s : State) : Answers (hubResetBody p args s) := by
  unfold hubResetBody
  split <;> simp

/-! ### Commands that could stop -/

theorem answers_openBody (p : Port) (args : List Byte) {s : State} (hs : Sound s) : Answers (openBody p args s) := by
  have refused : ∀ r, Answers (refuse p r s) := fun r => answers_refuse p r s
  unfold openBody
  split
  · split
    · exact refused _
    · split
      · exact refused _
      · split
        · exact refused _
        · split
          · exact refused _
          · split
            · exact answers_refuse _ _ _
            · next hgrant =>
              rw [if_neg (Nat.not_lt.mpr (hs.grants hgrant))]
              exact answers_next _
  · exact refused _

theorem answers_writeBody (p : Port) (args : List Byte) {s : State} (hs : Sound s) : Answers (writeBody p args s) := by
  have refused : ∀ r, Answers (refuse p r s) := fun r => answers_refuse p r s
  unfold writeBody
  split
  · next h1 h0 off data =>
    split
    · exact refused _
    · split
      · exact refused _
      · split
        · exact refused _
        · next m hm =>
          split
          · exact refused _
          · next hlen =>
            obtain ⟨hdesc, -⟩ := State.sourceSide_eq_ok.mp hm
            obtain ⟨hchain, hcells⟩ := hs.message_of (i := handleIndex (word16 h1 h0)) (m := m) (by rw [hdesc]; rfl)
            obtain ⟨l, hl⟩ := wordAddresses_of_range (offset := off.toNat) (count := data.length) hchain (by omega)
            rw [hl]
            exact answers_next _
        · exact refused _
  · exact refused _

theorem answers_peekBody (p : Port) (args : List Byte) {s : State} (hs : Sound s) : Answers (peekBody p args s) := by
  have refused : ∀ r, Answers (refuse p r s) := fun r => answers_refuse p r s
  unfold peekBody
  split
  · split
    · exact refused _
    · split
      · exact refused _
      · next sel _ =>
        obtain ⟨o, ho⟩ := hs.head p (s.selectLane p sel)
        rw [ho]
        cases o with
        | none => exact refused _
        | some hd => exact answers_next _
  · exact refused _

theorem answers_readTaken (p : Port) (hd : Head) (off count : Nat) (addresses : List Nat) (s : State) :
    Answers (readTaken p hd off count addresses s) := by
  unfold readTaken
  dsimp only
  split <;> simp

/-- The head of a queue names a message with 32 bytes a cell (R2, R91). -/
theorem Sound.head_message {s : State} (h : Sound s) {p : Port} {l : Lane} {hd : Head}
    (hh : s.head p l = some (some hd)) :
    1 ≤ hd.message.chain.length ∧ hd.message.length ≤ 32 * hd.message.chain.length := by
  obtain ⟨-, hlive⟩ := State.head_eq_some hh
  obtain ⟨hdesc, -⟩ := State.liveEntry_eq_some.mp hlive
  exact h.message_of (i := handleIndex hd.entry.handle) (by rw [hdesc]; rfl)

theorem answers_readBody (p : Port) (args : List Byte) {s : State} (hs : Sound s) : Answers (readBody p args s) := by
  have refused : ∀ r, Answers (refuse p r s) := fun r => answers_refuse p r s
  unfold readBody
  split
  · next h1 h0 off count =>
    split
    · exact refused _
    · split
      · exact refused _
      · next hcount =>
        split
        · exact refused _
        · split
          · exact refused _
          · next l hl =>
            obtain ⟨hd, hhead⟩ := hs.head_of_lane hl
            rw [hhead]
            dsimp only
            split
            · exact refused _
            · next hlen =>
              obtain ⟨hchain, hcells⟩ := hs.head_message hhead
              obtain ⟨addresses, ha⟩ := wordAddresses_of_range (offset := off.toNat) (count := count.toNat) hchain (by omega)
              rw [ha]
              exact answers_readTaken _ _ _ _ _ _
  · exact refused _

theorem answers_doneBody (p : Port) (args : List Byte) {s : State} (hs : Sound s) : Answers (doneBody p args s) := by
  have refused : ∀ r, Answers (refuse p r s) := fun r => answers_refuse p r s
  unfold doneBody
  split
  · split
    · exact refused _
    · split
      · exact refused _
      · next l hl =>
        obtain ⟨hd, hhead⟩ := hs.head_of_lane hl
        rw [hhead]
        exact answers_next _
  · exact refused _

/-! ### Events of the hub -/

theorem answers_releaseOfHeldPost (p : Port) {s : State} (hs : Sound s) : Answers (execReleaseOfHeldPost p s) := by
  unfold execReleaseOfHeldPost
  split
  · exact answers_next _
  · next hp hslot =>
    split
    · exact answers_next _
    · obtain ⟨m, hm, -⟩ := (heldLaw_iff.mp hs.held).1 p hp.handle (by rw [slotHandle, hslot]; rfl)
      rw [heldMessage_eq_some.mpr hm]
      dsimp only
      split <;> exact answers_next _

theorem answers_examination (p : Port) (l : Lane) {s : State} (hs : Sound s) : Answers (execExamination p l s) := by
  unfold execExamination
  obtain ⟨o, ho⟩ := hs.head p l
  rw [ho]
  rcases o with _ | hd
  all_goals
    dsimp only
    repeat' split
  all_goals exact answers_next _

theorem answers_expiry (p : Port) (l : Lane) {s : State} (hs : Sound s) : Answers (execExpiry p l s) := by
  unfold execExpiry
  obtain ⟨o, ho⟩ := hs.head p l
  rw [ho]
  rcases o with _ | hd
  all_goals
    dsimp only
    repeat' split
  all_goals exact answers_next _

theorem answers_flush (p : Port) (l : Lane) {s : State} (hs : Sound s) : Answers (execFlush p l s) := by
  unfold execFlush
  obtain ⟨o, ho⟩ := hs.head p l
  rw [ho]
  rcases o with _ | hd
  all_goals
    dsimp only
    repeat' split
  all_goals exact answers_next _

theorem answers_detachAbandonment (p : Port) (i : DescIndex) (s : State) : Answers (execDetachAbandonment p i s) := by
  unfold execDetachAbandonment
  repeat' split
  all_goals simp

theorem answers_detachCompletion (p : Port) (s : State) : Answers (execDetachCompletion p s) := by
  unfold execDetachCompletion
  dsimp only
  repeat' split
  all_goals simp

theorem answers_ite {c : Prop} [Decidable c] (t u : State) : Answers (if c then .next t else .next u) := by
  split <;> simp

theorem answers_shortFrame (p : Port) (bytes : List Byte) (s : State) : Answers (execShortFrame p bytes s) := by
  unfold execShortFrame
  repeat' split
  all_goals simp

theorem answers_samplingEvent (p : Port) (s : State) : Answers (execSamplingEvent p s) := answers_ite _ _

theorem answers_refill (p : Port) (s : State) : Answers (execRefill p s) := answers_ite _ _

theorem answers_millisecondMark (s : State) : Answers (execMillisecondMark s) := answers_ite _ _

theorem answers_leaseDecrement (s : State) : Answers (execLeaseDecrement s) := answers_ite _ _

/-- In a sound state every row answers. -/
theorem answers_exec (c : Instr) {s : State} (hs : Sound s) : Answers (exec c s) := by
  cases c with
  | attach p args => exact answers_issue hs fun as t _ => answers_attachBody p as t
  | detach p args => exact answers_issue hs fun as t _ => answers_detachBody p as t
  | forceDetach p args => exact answers_issue hs fun as t _ => answers_forceDetachBody p as t
  | openMessage p args => exact answers_issue hs fun as _ ht => answers_openBody p as ht
  | write p args => exact answers_issue hs fun as _ ht => answers_writeBody p as ht
  | abandon p args => exact answers_issue hs fun as t _ => answers_abandonBody p as t
  | post p args => exact answers_issue hs fun as t _ => answers_postBody p as t
  | peek p args => exact answers_issue hs fun as _ ht => answers_peekBody p as ht
  | read p args => exact answers_issue hs fun as _ ht => answers_readBody p as ht
  | done p args => exact answers_issue hs fun as _ ht => answers_doneBody p as ht
  | notices p args => exact answers_issue hs fun as t _ => answers_noticesBody p as t
  | account p args => exact answers_issue hs fun as t _ => answers_accountBody p as t
  | meters p args => exact answers_issue hs fun as t _ => answers_metersBody p as t
  | claim p args => exact answers_issue hs fun as t _ => answers_claimBody p as t
  | release p args => exact answers_issue hs fun as t _ => answers_releaseBody p as t
  | configure p args => exact answers_issue hs fun as t _ => answers_configureBody p as t
  | configRead p args => exact answers_issue hs fun as t _ => answers_configReadBody p as t
  | hubReset p args => exact answers_issue hs fun as t _ => answers_hubResetBody p as t
  | commandFrame p bytes => exact answers_next _
  | shortFrame p bytes => exact answers_shortFrame p bytes s
  | fetch p clocked => exact answers_next _
  | regReadFrameCut p => exact answers_next _
  | regWrite p bytes => exact answers_next _
  | eventFlags p value => exact answers_next _
  | eventEnable p value => exact answers_next _
  | deadlineWrite p lane value => exact answers_next _
  | meterThreshold p value => exact answers_next _
  | powerOnReset => exact answers_next _
  | millisecondMark => exact answers_millisecondMark s
  | examination p lane => exact answers_examination p lane hs
  | expiry p lane => exact answers_expiry p lane hs
  | leaseDecrement => exact answers_leaseDecrement s
  | claimExpiry => exact answers_ite _ _
  | samplingEvent p => exact answers_samplingEvent p s
  | refill p => exact answers_refill p s
  | releaseOfHeldPost p => exact answers_releaseOfHeldPost p hs
  | detachAbandonment p index => exact answers_detachAbandonment p index s
  | flush p lane => exact answers_flush p lane hs
  | noticeQueueEmptying p => exact answers_ite _ _
  | waiterRemoval p => exact answers_ite _ _
  | detachCompletion p => exact answers_detachCompletion p s
  | storageUpset cell word wordBits codeBits => exact answers_next _
  | unknownCommandCode p code args =>
    change Answers (if _ then _ else _)
    split
    · exact answers_issue hs fun _ t _ => answers_refuse p .badCommand t
    · exact answers_next _
  | csNFall p => exact answers_next _

theorem answers_idle (s : State) : Answers (idle s) := by
  unfold idle
  split
  · exact answers_refill _ s
  · split
    · exact answers_millisecondMark s
    · split
      · exact answers_leaseDecrement s
      · split
        · exact answers_samplingEvent _ s
        · exact answers_ite _ _

theorem answers_step {s : State} (hs : Sound s) : Answers (step s) := by
  unfold step
  split
  · exact answers_idle s
  · next c rest _ =>
    have waiting : Sound { s with pending := rest } := ⟨hs.entry, hs.held, hs.message, hs.grants⟩
    exact answers_exec c waiting

/-- Every law is kept: the statements on every step, together. -/
theorem lawful_step {s t : State} (hs : Lawful s) (h : step s = .next t) : Lawful t := by
  obtain ⟨config, credit, cap⟩ := Books.stepKeepsLimits.1 s t h
  obtain ⟨pacing, claim, mark⟩ := stepKeepsPacingAndClaim s t h
  obtain ⟨pool, queue, notice, flag, meter⟩ := stepKeepsBounds s t h
  have cell := Books.stepKeepsCells.2.1 s t h hs.cell
  obtain ⟨message, charge⟩ := Books.stepKeepsCharges.2.2.1 s t h hs.message hs.charge
  obtain ⟨entry, delivery, split⟩ :=
    Deliveries.stepKeepsDeliveries.2.2.2.1 s t h hs.message hs.entry hs.delivery hs.split
  obtain ⟨held, detach, offline⟩ := stepKeepsSlotsAndSessions s t h
  exact
    { config := config hs.config
      credit := credit hs.config hs.credit
      cap := cap hs.cap
      pacing := pacing hs.pacing
      claim := claim hs.claim
      mark := mark hs.mark
      queue := queue hs.queue
      notice := notice hs.notice
      flag := flag hs.flag
      meter := meter hs.meter
      message := message
      cell := cell
      charge := charge
      freeCell := (Books.stepKeepsCharges.2.2.2 t (config hs.config) (credit hs.config hs.credit) message charge cell).1
      entry := entry
      delivery := delivery
      split := split
      held := held hs.held
      detach := detach hs.detach
      offline := offline hs.offline
      pool := pool hs.pool }

/-- Settles O60: a lawful state has what every event needs, and every step keeps every law. -/
theorem lawfulStepNeverStops : Obligations.LawfulStepNeverStops := fun s hs => by
  obtain ⟨t, ht⟩ := answers_step (sound_of_lawful hs)
  exact ⟨t, ht, lawful_step hs ht⟩

end Steps
end Sys2Proof
end

section
/-! PROOFS. Steps, hub time and resets: what a step takes, what passes on an empty queue, and what the two resets leave
(chapters 6 and 8). -/

namespace Sys2Proof
namespace Time

open Sys2Proof.Machine Sys2Proof.Safety Sys2Proof.Events

-- One theorem after the other: side by side their elaborations hold more threads than the sandbox has room for.
set_option Elab.async false

/-! ## The step -/

/-- Settles O1: the step's own second branch. -/
theorem stepTakesTheFrontCommand : Obligations.StepTakesTheFrontCommand := by
  intro s c rest h
  rw [step, h]

theorem step_of_empty {s : State} (h : s.pending = []) : step s = idle s := by
  rw [step, h]

/-- A search in port order finds the lowest port. -/
theorem find_lowest {f : Port → Bool} {p : Port} (hp : f p = true) (hlow : ∀ q : Port, q.toNat < p.toNat → f q = false) :
    Port.all.find? f = some p := by
  cases p with
  | p0 => simp [Port.all, hp]
  | p1 => simp [Port.all, hp, hlow .p0 (by decide)]
  | p2 => simp [Port.all, hp, hlow .p0 (by decide), hlow .p1 (by decide)]
  | p3 => simp [Port.all, hp, hlow .p0 (by decide), hlow .p1 (by decide), hlow .p2 (by decide)]

theorem dueRefill_eq_some {s : State} {p : Port} (hp : (s.port p).refillDue = true)
    (hlow : ∀ q : Port, q.toNat < p.toNat → (s.port q).refillDue = false) : s.dueRefill = some p :=
  find_lowest hp hlow

theorem dueRefill_eq_none {s : State} (h : ∀ p, (s.port p).refillDue = false) : s.dueRefill = none :=
  List.find?_eq_none.mpr fun p _ => by rw [h]; exact Bool.false_ne_true

theorem dueSampling_eq_some {s : State} {p : Port} (hp : (s.port p).samplesDue ≠ 0)
    (hlow : ∀ q : Port, q.toNat < p.toNat → (s.port q).samplesDue = 0) : s.dueSampling = some p :=
  find_lowest (decide_eq_true hp) fun q hq => decide_eq_false fun h => h (hlow q hq)

theorem dueSampling_eq_none {s : State} (h : ∀ p, (s.port p).samplesDue = 0) : s.dueSampling = none :=
  List.find?_eq_none.mpr fun p _ => by simp [h]

/-- Settles O2: on an empty queue a step is the first thing due in the model's order, and else one microsecond. -/
theorem idleStepPassesTime : Obligations.IdleStepPassesTime := by
  intro s hempty
  rw [step_of_empty hempty]
  refine ⟨fun p hp hlow => ?_, fun hr hm => ?_, fun hr hm hl => ?_, fun hr hm hl p hp hlow => ?_,
    fun hr hm hl hsamples hclk => ?_, fun hr hm hl hsamples hclk => ⟨s.tickOnce, ?_, rfl, ?_, fun p => ?_⟩⟩
  · simp only [idle, dueRefill_eq_some hp hlow]
    rfl
  · simp only [idle, dueRefill_eq_none hr, hm, if_true]
    rfl
  · simp only [idle, dueRefill_eq_none hr, hm, hl, if_true, Bool.false_eq_true, if_false]
    rfl
  · simp only [idle, dueRefill_eq_none hr, hm, hl, dueSampling_eq_some hp hlow, Bool.false_eq_true, if_false]
    rfl
  · simp only [idle, dueRefill_eq_none hr, hm, hl, dueSampling_eq_none hsamples, hclk, Bool.false_eq_true, if_false]
  · simp only [idle, dueRefill_eq_none hr, hm, hl, dueSampling_eq_none hsamples, hclk, Bool.false_eq_true, if_false, if_true]
  · exact decide_eq_true_iff
  · rw [tickOnce_port]
    rfl

/-! ## Marks -/

/-- Settles O7: a mark that is due is delivered to every port and to the lease of a held claim. -/
theorem millisecondMarkDelivered : Obligations.MillisecondMarkDelivered := by
  intro s
  have branches : exec .millisecondMark s = if s.markDue then .next (markDelivered s) else .next s := rfl
  refine ⟨fun h => ⟨markDelivered s, ?_, rfl, fun p => markDelivered_port s p⟩, fun h => ?_⟩
  · rw [branches, h, if_pos rfl]
  · rw [branches, h, if_neg Bool.false_ne_true]

/-! ## Power-on reset -/

theorem attention_of_no_flags {x : PortState} (h : x.eventFlags = 0#15) : x.attention = false := by
  simp [PortState.attention, h]

theorem poweredOn_freeList (s : State) : (poweredOn s).freeList = List.finRange 512 := by
  simp only [poweredOn, State.reset, allCells]

theorem poweredOn_sharedCapacity (s : State) : (poweredOn s).sharedCapacity = 320 := by
  simp only [State.sharedCapacity, State.totalAllotments, sumPorts, poweredOn_port]
  rfl

/-- Settles O4: the hub after power-on reset, field by field. -/
theorem powerOnResetInitializes : Obligations.PowerOnResetInitializes := by
  intro s
  refine ⟨poweredOn s, rfl, rfl, rfl, rfl, rfl, rfl, rfl, poweredOn_freeList s, poweredOn_sharedCapacity s, rfl, desc_poweredOn s, fun p => ?_⟩
  simp only [State.queue, poweredOn_port]
  have flags : PortState.reset.eventFlags = 0#15 := by decide
  have status : PortState.reset.statusByte = 0#8 := by decide
  refine ⟨rfl, rfl, rfl, rfl, rfl, rfl, rfl, rfl, rfl, rfl, rfl, rfl, fun l => ?_, rfl, rfl, flags, rfl,
    attention_of_no_flags flags, rfl, rfl, rfl, status, ?_⟩
  · cases l <;> rfl
  · cases (s.port p).chipSelect <;> rfl

/-- Power-on reset of the reset state leaves it. -/
theorem poweredOn_reset : poweredOn State.reset = State.reset := by
  have ports : State.reset.ports.map (fun _ x => { PortState.reset with chipSelect := x.chipSelect.lose })
      = State.reset.ports := PerPort.ext_get fun q => by cases q <;> rfl
  rw [poweredOn, ports]

theorem Kept.holds_reset {Law : State → Prop} (h : Kept Law) : Law State.reset := poweredOn_reset ▸ h.reset State.reset

/-- Settles O5: each law holds after power-on reset, as the statements on every step say or need. -/
theorem resetStateMeetsLaws : Obligations.ResetStateMeetsLaws := by
  obtain ⟨-, config, credit, cap⟩ := Books.stepKeepsLimits
  obtain ⟨cell, -, hcells⟩ := Books.stepKeepsCells
  obtain ⟨message, charge, -, hcharges⟩ := Books.stepKeepsCharges
  obtain ⟨entry, delivery, split, -⟩ := Deliveries.stepKeepsDeliveries
  refine ⟨?_, ?_, rfl, fun p => ?_⟩
  · exact
      { config, credit, cap, cell, message, charge, entry, delivery, split
        pacing := Kept.holds_reset kept_pacingLaw
        claim := Kept.holds_reset kept_claimLaw
        mark := Kept.holds_reset kept_markLaw
        queue := Kept.holds_reset kept_queueLaw
        notice := Kept.holds_reset kept_noticeLaw
        flag := Kept.holds_reset kept_flagLaw
        meter := Kept.holds_reset kept_meterLaw
        freeCell := (hcharges State.reset config credit message charge cell).1
        held := Kept.holds_reset kept_heldLaw
        detach := Kept.holds_reset kept_detachLaw
        offline := Kept.holds_reset kept_offlineLaw
        pool := Kept.holds_reset kept_poolLaw }
  · simp only [State.reset, Books.allCells_length]
  · have flags : (State.reset.port p).eventFlags = 0#15 := by cases p <;> rfl
    exact ⟨attention_of_no_flags flags, flags⟩

/-! ## Hub reset -/

/-- A hub reset forgets the claim and its lease. -/
theorem hubReset_renewLease (s : State) (p : Port) : (s.renewLease p).hubReset = s.hubReset := by
  rw [State.renewLease_eq]
  rfl

theorem hubResetBody_of_holder {s : State} {p : Port} (hs : (s.port p).session = .attached) (hclaim : s.holdsClaim p = true)
    (args : List Byte) : hubResetBody p args s = .next (s.hubReset.answer p .ok []) := by
  have hsession : sessionCheck false p s = none := sessionCheck_eq_none.mpr (.inl hs)
  have hholder : claimCheck p s = none := claimCheck_eq_none.mpr hclaim
  rw [hubResetBody, hsession, hholder]
  rfl

/-- A hub reset drops what an engine carries and keeps a held response (R146). -/
theorem engine_hubReset (e : Engine) : e.hubReset = if e.isHeld then e else .idle := by
  cases e <;> rfl

theorem hubReset_desc (s : State) (i : DescIndex) :
    s.hubReset.desc i
      = if (s.desc i).state = .free then s.desc i else { generation := (s.desc i).generation + 1, state := .free } := by
  rw [desc_hubReset, Descriptor.hubReset]
  cases h : (s.desc i).state <;> simp

/-- Settles O6: an accepted HUB_RESET of the claim holder resets the hub and has OK as its response. -/
theorem hubResetTaken : Obligations.HubResetTaken := by
  intro p s ha hs hclaim
  have taken : exec (.hubReset p []) s = hubResetBody p [] (s.renewLease p) :=
    issue_taken (hubResetBody p) ha (by decide)
  rw [taken, hubResetBody_of_holder (by rwa [State.renewLease_port]) (by rwa [State.renewLease_holdsClaim]),
    hubReset_renewLease]
  refine ⟨_, rfl, ?_, fun i => hubReset_desc s i, fun q => ?_⟩
  · simp only [State.answer, State.modifyPort, State.setPort, State.hubReset, allCells]
  rw [State.answer_port, hubReset_port, hubReset_port]
  split
  · next e =>
    subst e
    rfl
  · rw [PortState.hubReset, engine_hubReset]
    rfl

/-! ## Storage upsets -/

/-- Settles O8: the upset word is stored at its own address, and a store leaves every other address. -/
theorem storageUpsetDisturbsOneWord : Obligations.StorageUpsetDisturbsOneWord := by
  intro s cell word wordBits codeBits hwf
  refine ⟨_, rfl, rfl, ?_, ?_, ?_, fun a ha => ?_⟩
  · rw [Pool.lookup_store _ _ _ hwf.1, if_pos rfl]
    rfl
  · rw [Pool.lookup_store _ _ _ hwf.1, if_pos rfl]
    rfl
  · rw [Pool.lookup_store _ _ _ hwf.1, if_pos rfl]
    rfl
  · rw [Pool.lookup_store _ _ _ hwf.1, if_neg ha]

end Time
end Sys2Proof
end

section
/-! PROOFS. Frames of the host ports: what the port engine reads of a command frame, how a frame is decided, discarded or lost,
and which rows are command rows (chapter 11). -/

namespace Sys2Proof
namespace Frames

open Sys2Proof.Machine Sys2Proof.Safety

-- One theorem after the other: side by side their elaborations hold more threads than the sandbox has room for.
set_option Elab.async false

/-! ## Reading a command frame (R174, R176) -/

theorem byteOf_toNat {n : Nat} (h : n ≤ 255) : (byteOf n).toNat = n := by
  rw [byteOf, BitVec.toNat_ofNat]
  omega

/-- A frame with its CRC byte is read as it was sent. -/
theorem parseFrame_complete {code : Byte} {args : List Byte} (hcode : isCommandByte code = true) (hlen : args.length ≤ 255)
    (crc : Byte) (after : List Byte) :
    parseFrame (code :: byteOf args.length :: (args ++ crc :: after))
      = some (CommandFrame.of code args, decide (crc8 (code :: byteOf args.length :: args) = crc)) := by
  have crcByte : (args ++ crc :: after)[args.length]? = some crc := by simp
  simp only [parseFrame, hcode, if_true, byteOf_toNat hlen, crcByte, List.take_left]

/-- A frame cut before its CRC byte is none. -/
theorem parseFrame_cut {code : Byte} {n : Byte} {rest : List Byte} (h : rest.length ≤ n.toNat) :
    parseFrame (code :: n :: rest) = none := by
  simp only [parseFrame, List.getElem?_eq_none h]
  split <;> rfl

theorem frameBytes_eq (code : Byte) (args : List Byte) :
    frameBytes code args = code :: byteOf args.length :: (args ++ [crc8 (code :: byteOf args.length :: args)]) := rfl

theorem parseFrame_frameBytes {code : Byte} {args : List Byte} (hcode : isCommandByte code = true)
    (hlen : args.length ≤ 255) : parseFrame (frameBytes code args) = some (CommandFrame.of code args, true) := by
  rw [frameBytes_eq, parseFrame_complete hcode hlen, decide_eq_true rfl]

/-- Settles O11: by the bytes that are there, none, the code alone, or the code and the length with some of the rest. -/
theorem commandFrameParsesAsSent : Obligations.CommandFrameParsesAsSent := by
  intro code args hcode hlen
  refine ⟨fun crc after => ?_, fun n hn => ?_⟩
  · exact (parseFrame_complete hcode hlen crc after).trans (by simp only [CommandFrame.of, byteOf, eq_comm])
  · rw [frameBytes_eq]
    match n with
    | 0 => exact ⟨rfl, rfl⟩
    | 1 => exact ⟨rfl, by simp [isShortFrame, hcode]⟩
    | k + 2 =>
      have cut : ((args ++ [crc8 (code :: byteOf args.length :: args)]).take k).length ≤ (byteOf args.length).toNat := by
        rw [byteOf_toNat hlen, List.length_take]
        omega
      rw [List.take_succ_cons, List.take_succ_cons]
      exact ⟨parseFrame_cut cut, by simp only [isShortFrame, hcode, cut, decide_true, Bool.and_self]; simp⟩

/-! ## Deciding a command frame (R175) -/

theorem raiseOn_setPort (s : State) (p : Port) (x : PortState) (f : LatchedFlag) :
    (s.setPort p x).raiseOn p f = s.setPort p (x.raise f) := by
  rw [State.raiseOn, State.modifyPort_eq, State.port_setPort_self, State.setPort_setPort]

theorem answer_setPort (s : State) (p : Port) (x : PortState) (r : Result) (b : List Byte) :
    (s.setPort p x).answer p r b = s.setPort p (holding x r b) := by
  rw [State.answer, State.modifyPort_eq, State.port_setPort_self, State.setPort_setPort]
  rfl

/-- The port after the decision on a complete frame (R175). -/
def decided (x : PortState) (f : CommandFrame) (good : Bool) : PortState :=
  if x.engine = .idle then
    if good then { x with engine := .accepted f } else (holding x .frameCrc []).raise .frameError
  else x.raise (if good then .overrun else .frameError)

theorem decided_idle {x : PortState} (h : x.engine = .idle) (f : CommandFrame) :
    decided x f true = { x with engine := .accepted f } := by
  rw [decided, if_pos h, if_pos rfl]

theorem decideFrame_setPort (s : State) (p : Port) (x : PortState) (f : CommandFrame) (good : Bool) :
    (s.setPort p x).decideFrame p f good = s.setPort p (decided x f good) := by
  unfold State.decideFrame decided
  rw [State.port_setPort_self]
  split
  · next hidle =>
    rw [if_pos hidle]
    cases good
    · rw [if_neg Bool.false_ne_true, if_neg Bool.false_ne_true, answer_setPort, raiseOn_setPort]
    · rw [if_pos rfl, if_pos rfl, State.modifyPort_eq, State.port_setPort_self, State.setPort_setPort]
  · next hbusy => rw [if_neg hbusy, raiseOn_setPort]

/-- A complete command frame of a listening port. -/
theorem commandFrame_listening {s : State} {p : Port} (h : Listening s p) {bytes : List Byte} {f : CommandFrame} {good : Bool}
    (hf : parseFrame bytes = some (f, good)) :
    s.commandFrame p bytes
      = s.setPort p (decided (framed (s.port p) (List.replicate (bytes.length - 1) 0#8)) f good) := by
  rw [State.commandFrame, hf]
  exact (State.frame_listening h (g := statusOnly bytes.length) (fun _ => rfl) _).trans (decideFrame_setPort _ _ _ _ _)

/-- Settles O13: the frame is shifted out, and the engine of the port decides it. -/
theorem commandFrameDecided : Obligations.CommandFrameDecided := by
  intro p s bytes f good hf hl
  exact congrArg Host.Outcome.next (commandFrame_listening hl hf)

/-! ## Discarded and lost frames (R147, R176, R182, R183, R189) -/

/-- The port after a frame of `length` bytes that is discarded. -/
def discarded (x : PortState) (length : Nat) : PortState :=
  (framed x (List.replicate (length - 1) 0#8)).raise .frameError

theorem brokenFrame_listening {s : State} {p : Port} (h : Listening s p) (length : Nat) :
    s.brokenFrame p length = s.setPort p (discarded (s.port p) length) := by
  rw [State.brokenFrame, State.frame_listening h (g := statusOnly length) (fun _ => rfl), raiseOn_setPort]
  rfl

theorem regFrame_write (s : State) (p : Port) (rest : List Byte) :
    s.regFrame p (0x82#8 :: rest) = s.regWriteFrame p (0x82#8 :: rest) := by
  rw [State.regFrame, if_neg (by decide)]

theorem regFrame_read (s : State) (p : Port) (rest : List Byte) : s.regFrame p (0x81#8 :: rest) = s.regReadFrame p rest := by
  rw [State.regFrame, if_pos rfl]

/-- A REG_WRITE frame of fewer than seven bytes is broken. -/
theorem regWriteFrame_short (s : State) (p : Port) {rest : List Byte} (h : rest.length < 6) :
    s.regWriteFrame p (0x82#8 :: rest) = s.brokenFrame p (rest.length + 1) := by
  match rest with
  | [] => rfl
  | [_] => rfl
  | [_, _] => rfl
  | [_, _, _] => rfl
  | [_, _, _, _] => rfl
  | [_, _, _, _, _] => rfl
  | _ :: _ :: _ :: _ :: _ :: _ :: _ =>
    simp only [List.length_cons] at h
    omega

/-- A REG_WRITE frame of seven bytes or more, by its CRC and its address (R183). -/
theorem regWriteFrame_whole (s : State) (p : Port) (a d3 d2 d1 d0 crc : Byte) (after : List Byte) :
    s.regWriteFrame p (0x82#8 :: a :: d3 :: d2 :: d1 :: d0 :: crc :: after)
      = if crc8 [0x82#8, a, d3, d2, d1, d0] ≠ crc then s.brokenFrame p (after.length + 7)
        else
          ((writableAt a).map fun r =>
            s.frame p (statusOnly (after.length + 7)) fun t => t.writeRegister p r (bytesWord d3 d2 d1 d0)).getD
            (s.brokenFrame p (after.length + 7)) := by
  rw [State.regWriteFrame, if_neg (by decide)]
  split
  · rfl
  · cases writableAt a <;> rfl

theorem writableAt_eq_none {a : Byte} (h : a ∉ [0x18#8, 0x19#8, 0x1A#8, 0x1B#8, 0x1C#8]) : writableAt a = none := by
  simp only [List.mem_cons, List.not_mem_nil, or_false, not_or] at h
  obtain ⟨h0, h1, h2, h3, h4⟩ := h
  rw [writableAt, if_neg h0, if_neg h1, if_neg h2, if_neg h3, if_neg h4]

/-- A whole REG_WRITE frame with a bad CRC byte or no writable register is broken. -/
theorem regWriteFrame_refused (s : State) (p : Port) {a d3 d2 d1 d0 crc : Byte} (after : List Byte)
    (h : crc ≠ crc8 [0x82#8, a, d3, d2, d1, d0] ∨ a ∉ [0x18#8, 0x19#8, 0x1A#8, 0x1B#8, 0x1C#8]) :
    s.regWriteFrame p (0x82#8 :: a :: d3 :: d2 :: d1 :: d0 :: crc :: after) = s.brokenFrame p (after.length + 7) := by
  rw [regWriteFrame_whole]
  split
  · rfl
  · next hcrc =>
    rw [writableAt_eq_none (h.resolve_left fun hne => hcrc hne.symm)]
    rfl

/-- A frame of a period that a power-on reset lost ends the period and does nothing else (R147). -/
theorem frame_of_lost {s : State} {p : Port} (h : (s.port p).chipSelect = .lost) (g : Byte → List Byte)
    (act : State → State) : s.frame p g act = s.endPeriod p :=
  State.frame_lost h g act

theorem brokenFrame_lost {s : State} {p : Port} (h : (s.port p).chipSelect = .lost) (length : Nat) :
    s.brokenFrame p length = s.endPeriod p := frame_of_lost h _ _

theorem regReadFrame_lost {s : State} {p : Port} (h : (s.port p).chipSelect = .lost) (rest : List Byte) :
    s.regReadFrame p rest = s.endPeriod p := by
  cases rest with
  | nil => exact brokenFrame_lost h 1
  | cons address more =>
    rw [State.regReadFrame]
    exact frame_of_lost h _ _

theorem regWriteFrame_lost {s : State} {p : Port} (h : (s.port p).chipSelect = .lost) (rest : List Byte) :
    s.regWriteFrame p (0x82#8 :: rest) = s.endPeriod p := by
  match rest with
  | a :: d3 :: d2 :: d1 :: d0 :: crc :: after =>
    rw [regWriteFrame_whole]
    split
    · exact brokenFrame_lost h _
    · cases writableAt a with
      | none => exact brokenFrame_lost h _
      | some r => exact frame_of_lost (s := s) h (statusOnly (after.length + 7)) fun t => t.writeRegister p r _
  | [] | [_] | [_, _] | [_, _, _] | [_, _, _, _] | [_, _, _, _, _] =>
    exact (regWriteFrame_short s p (by simp)).trans (brokenFrame_lost h _)

theorem fetchFrame_eq (s : State) (p : Port) {clocked : Nat} (h : 1 ≤ clocked) :
    s.fetchFrame p clocked
      = s.frame p (fetchMiso (s.port p).engine.fetched clocked) fun t =>
          t.modifyPort p fun x => { x with engine := x.engine.afterFetch clocked } :=
  if_neg (by omega)

theorem exec_shortFrame_of_short {p : Port} {bytes : List Byte} (h : isShortFrame bytes = true) (s : State) :
    exec (.shortFrame p bytes) s = .next (s.brokenFrame p bytes.length) := by
  have hne : bytes ≠ [] := by
    rintro rfl
    cases h
  change execShortFrame p bytes s = _
  rw [execShortFrame, if_neg hne, if_pos h]

theorem exec_commandFrame_lost {s : State} {p : Port} (h : (s.port p).chipSelect = .lost) {bytes : List Byte}
    (hf : (parseFrame bytes).isSome = true) :
    exec (.commandFrame p bytes) s = .next (s.endPeriod p) := by
  obtain ⟨⟨f, good⟩, hf⟩ := Option.isSome_iff_exists.mp hf
  refine congrArg Host.Outcome.next ?_
  rw [State.commandFrame, hf]
  exact frame_of_lost h _ _

/-- Settles O14: each broken frame sets FRAME_ERROR, and a frame in a lost period ends the period alone. -/
theorem brokenFramesDiscarded : Obligations.BrokenFramesDiscarded := by
  refine ⟨fun p s hl => ⟨fun bytes hb => ?_, ?_, ?_, fun rest hr => ?_, fun a d3 d2 d1 d0 crc after h => ?_⟩,
    fun p s bytes clocked value l hlost hc c hmem => ?_⟩
  · rw [exec_shortFrame_of_short hb, brokenFrame_listening hl]
    rfl
  · exact congrArg Host.Outcome.next (State.regReadFrame_cut hl)
  · exact congrArg Host.Outcome.next (State.regReadFrame_cut hl)
  · refine congrArg Host.Outcome.next ?_
    rw [regFrame_write, regWriteFrame_short s p hr, brokenFrame_listening hl]
    rfl
  · refine congrArg Host.Outcome.next ?_
    rw [regFrame_write, regWriteFrame_refused s p after h, brokenFrame_listening hl]
    rfl
  · rw [← State.endPeriod_eq]
    simp only [List.mem_append, List.mem_cons, List.not_mem_nil, or_false] at hmem
    rcases hmem with (hmem | hmem) | hmem
    · rcases hmem with rfl | rfl | rfl | rfl | rfl | rfl | rfl | rfl
      · exact congrArg Host.Outcome.next ((fetchFrame_eq s p hc).trans (frame_of_lost hlost _ _))
      · exact congrArg Host.Outcome.next (regReadFrame_lost hlost [])
      · exact congrArg Host.Outcome.next ((regFrame_read s p bytes).trans (regReadFrame_lost hlost bytes))
      · exact congrArg Host.Outcome.next ((regFrame_write s p bytes).trans (regWriteFrame_lost hlost bytes))
      all_goals exact congrArg Host.Outcome.next (frame_of_lost hlost _ _)
    · split at hmem
      · next hf =>
        obtain rfl := List.mem_singleton.mp hmem
        exact exec_commandFrame_lost hlost hf
      · cases hmem
    · split at hmem
      · next hb =>
        obtain rfl := List.mem_singleton.mp hmem
        rw [exec_shortFrame_of_short hb, brokenFrame_lost hlost]
      · cases hmem

/-! ## Command rows (R186) -/

/-- A command row is the issue of its command. -/
theorem exec_commandRow {c : Instr} {p : Port} {code : Byte} {args : List Byte} (h : commandRow c = some (p, code, args)) :
    isCommandByte code = true ∧ ∃ body, ∀ s, exec c s = issue p code args body s := by
  cases c with
  | unknownCommandCode q b as =>
    rw [commandRow] at h
    split at h
    · next hb =>
      cases h
      obtain ⟨hcode, -⟩ := Bool.and_eq_true_iff.mp hb
      exact ⟨hcode, _, fun s => if_pos hb⟩
    · cases h
  | _ =>
    cases h <;> exact ⟨rfl, _, fun _ => rfl⟩

/-- A command whose frame an idle engine has not accepted: its good frame arrives, and it is taken (log entry 4). -/
theorem issue_idle {s : State} {p : Port} {code : Byte} {args : List Byte} (body : List Byte → State → StepOutcome)
    (hcode : isCommandByte code = true) (hlen : args.length ≤ 255) (hidle : (s.port p).engine = .idle)
    (hl : Listening s p) :
    issue p code args body s
      = issue p code args body (s.setPort p
          { framed (s.port p) (List.replicate (args.length + 2) 0#8) with
            engine := .accepted (CommandFrame.of code args) }) := by
  have fits : argsFit args = true := decide_eq_true hlen
  have idle : ∀ rest, (framed (s.port p) rest).engine = .idle := fun _ => hidle
  have arrived := commandFrame_listening hl (parseFrame_frameBytes hcode hlen)
  rw [decided_idle (idle _), show (frameBytes code args).length - 1 = args.length + 2 by simp [frameBytes]] at arrived
  rw [← arrived]
  have accepted : ((s.commandFrame p (frameBytes code args)).port p).engine = .accepted (CommandFrame.of code args) := by
    rw [arrived, State.port_setPort_self]
  rw [issue_accepted body fits accepted, issue, if_pos fits]
  simp only [hidle, reduceCtorEq, if_false, accepted, if_true]

theorem isDetaching_eq_false {s : State} {p : Port} (h : (s.port p).session = .attached ∨ (s.port p).session = .offline) :
    s.isDetaching p = false := by
  unfold State.isDetaching
  rcases h with h | h <;> rw [h]

/-- Settles O3: a command row at an idle engine is its frame and its taking, and an event of the hub without its cause finds
its first test failed. -/
theorem modelRowConventions : Obligations.ModelRowConventions := by
  refine ⟨fun c s p code args hc hlen hidle hl => ?_, fun s p i l =>
    ⟨fun h => ?_, fun g h => ?_, fun h c hc => ?_, fun h => ?_, fun h => ?_⟩⟩
  · obtain ⟨hcode, body, hbody⟩ := exec_commandRow hc
    rw [hbody, hbody]
    exact issue_idle body hcode hlen hidle hl
  · change execReleaseOfHeldPost p s = _
    rw [execReleaseOfHeldPost, h]
  · change execReleaseOfHeldPost p s = _
    rw [execReleaseOfHeldPost, h]
    rfl
  · have idle := isDetaching_eq_false h
    have stays : ∀ o : StepOutcome, (if s.isDetaching p then o else .next s) = .next s := fun o => by
      rw [idle, if_neg Bool.false_ne_true]
    simp only [List.mem_cons, List.not_mem_nil, or_false] at hc
    rcases hc with rfl | rfl | rfl | rfl | rfl
    · exact stays _
    · exact stays _
    · exact stays _
    · exact stays _
    · change execDetachCompletion p s = _
      rw [execDetachCompletion]
      rcases h with h | h <;> rw [h]
  · change execFlush p l s = _
    rw [execFlush, State.head, h]
    split <;> rfl
  · change execDetachAbandonment p i s = _
    rw [execDetachAbandonment]
    split
    · split
      · next m hm =>
        rw [if_neg fun hp => h (by rw [hm, ← hp]; rfl)]
      · rfl
    · rfl

end Frames
end Sys2Proof
end

section
/-! PROOFS. Registers and response frames: the status byte, the register window, register reads and writes, and FETCH
(chapter 11). -/

namespace Sys2Proof
namespace Registers

open Sys2Proof.Machine Sys2Proof.Safety Sys2Proof.Frames

-- One theorem after the other: side by side their elaborations hold more threads than the sandbox has room for.
set_option Elab.async false

/-! ## Words and their bytes -/

/-- The number of four bytes, the most significant first (11.7). -/
theorem bytesWord_toNat (a b c d : Byte) :
    (bytesWord a b c d).toNat = a.toNat * 2 ^ 24 + b.toNat * 2 ^ 16 + c.toNat * 2 ^ 8 + d.toNat := by
  have hb := b.isLt
  have hc := c.isLt
  have hd := d.isLt
  simp only [bytesWord, BitVec.toNat_append]
  rw [← Nat.shiftLeft_add_eq_or_of_lt hb, ← Nat.shiftLeft_add_eq_or_of_lt hc, ← Nat.shiftLeft_add_eq_or_of_lt hd]
  simp only [Nat.shiftLeft_eq]
  omega

theorem extract_byte (w : Word) (k : Nat) : (w.extractLsb' k 8).toNat = w.toNat / 2 ^ k % 2 ^ 8 := by
  rw [BitVec.extractLsb'_toNat, Nat.shiftRight_eq_div_pow]

/-- A word is the word of its four bytes. -/
theorem bytesWord_wordBytes (w : Word) :
    bytesWord (w.extractLsb' 24 8) (w.extractLsb' 16 8) (w.extractLsb' 8 8) (w.extractLsb' 0 8) = w := by
  have := w.isLt
  apply BitVec.eq_of_toNat_eq
  simp only [bytesWord_toNat, extract_byte]
  omega

/-- The bytes of a word of four bytes are those. -/
theorem wordBytes_bytesWord (a b c d : Byte) : wordBytes (bytesWord a b c d) = [a, b, c, d] := by
  have ha := a.isLt
  have hb := b.isLt
  have hc := c.isLt
  have hd := d.isLt
  have h3 : (bytesWord a b c d).extractLsb' 24 8 = a := by
    apply BitVec.eq_of_toNat_eq
    rw [extract_byte, bytesWord_toNat]
    omega
  have h2 : (bytesWord a b c d).extractLsb' 16 8 = b := by
    apply BitVec.eq_of_toNat_eq
    rw [extract_byte, bytesWord_toNat]
    omega
  have h1 : (bytesWord a b c d).extractLsb' 8 8 = c := by
    apply BitVec.eq_of_toNat_eq
    rw [extract_byte, bytesWord_toNat]
    omega
  have h0 : (bytesWord a b c d).extractLsb' 0 8 = d := by
    apply BitVec.eq_of_toNat_eq
    rw [extract_byte, bytesWord_toNat]
    omega
  rw [wordBytes, h3, h2, h1, h0]

/-! ## The status byte (R172) -/

theorem getLsbD_ite {w : Nat} (c : Prop) [Decidable c] (x : BitVec w) (i : Nat) :
    (if c then x else 0#w).getLsbD i = (decide c && x.getLsbD i) := by
  split <;> simp [*]

theorem extract_ite {w : Nat} (c : Prop) [Decidable c] (x : BitVec w) (k n : Nat) (h : x.extractLsb' k n = 0#n) :
    (if c then x else 0#w).extractLsb' k n = 0#n := by
  split
  · exact h
  · exact BitVec.extractLsb'_zero

/-- The session's code has its bits in places 0 and 1. -/
theorem session_code_high (x : Session) {i : Nat} (h : 2 ≤ i) : x.code.getLsbD i = false := by
  have : x.code.toNat < 2 ^ i := lt_of_lt_of_le (b := 2 ^ 2) (by cases x <;> simp [Session.code]) (Nat.pow_le_pow_right (by decide) h)
  rw [← BitVec.testBit_toNat, Nat.testBit_lt_two_pow this]

/-- Settles O12: CS_N captures the status byte of the port's state, and a period without a byte leaves the hub. -/
theorem chipSelectFallCapturesStatus : Obligations.ChipSelectFallCapturesStatus := by
  intro p s
  refine ⟨(s.port p).statusByte, rfl, ?_, congrArg Host.Outcome.next (State.endPeriod_eq s p), ?_, ?_, ?_, ?_, ?_, ?_, ?_⟩
  · refine congrArg Host.Outcome.next ?_
    rw [State.endPeriod_eq, State.port_setPort_self, State.setPort_setPort]
  all_goals simp only [PortState.statusByte, BitVec.getLsbD_or, getLsbD_ite, session_code_high _ (Nat.le_refl 2),
    session_code_high _ (show 2 ≤ 3 by decide), session_code_high _ (show 2 ≤ 4 by decide),
    session_code_high _ (show 2 ≤ 5 by decide), session_code_high _ (show 2 ≤ 6 by decide),
    session_code_high _ (show 2 ≤ 7 by decide)]
  · simp
  · simp
  · simp [PortState.attention]
  · simp
  · change _ = decide ((s.port p).inbound.urgent.entries ≠ [])
    simp
  · change _ = decide ((s.port p).inbound.routine.entries ≠ [])
    simp
  · simp only [BitVec.extractLsb'_or]
    rw [extract_ite _ _ _ _ (by decide), extract_ite _ _ _ _ (by decide), extract_ite _ _ _ _ (by decide),
      extract_ite _ _ _ _ (by decide), extract_ite _ _ _ _ (by decide), extract_ite _ _ _ _ (by decide)]
    simp only [BitVec.zero_or]
    cases (s.port p).session <;> rfl

/-! ## Register writes (R121, R122, R101, R167, R183) -/

/-- A port after a taken write of one of its registers. -/
def registerWritten (x : PortState) (v : Word) : WritableRegister → PortState
  | .eventFlags => x.clearFlags v
  | .eventEnable => x.setEnables v
  | .deadline l => { x with deadline := x.deadline.set l (v.setWidth 16) }
  | .meterThreshold => { x with threshold := v }

theorem writeRegister_setPort (s : State) (p : Port) (x : PortState) (r : WritableRegister) (v : Word) :
    (s.setPort p x).writeRegister p r v = s.setPort p (registerWritten x v r) := by
  rw [State.writeRegister, State.modifyPort_eq, State.port_setPort_self, State.setPort_setPort]
  cases r <;> rfl

theorem registerFrame_listening {s : State} {p : Port} (h : Listening s p) (r : WritableRegister) (v : Word) :
    s.registerFrame p r v = s.setPort p (registerWritten (framed (s.port p) (List.replicate 6 0#8)) v r) := by
  rw [State.registerFrame, State.frame_listening h (g := statusOnly 7) (fun _ => rfl)]
  exact writeRegister_setPort s p _ r v

/-- A good REG_WRITE frame of a writable register is the register's own frame. -/
theorem regFrame_good (s : State) (p : Port) {address : Byte} {r : WritableRegister} (hr : writableAt address = some r)
    (v : Word) : s.regFrame p (regWriteBytes address v) = s.registerFrame p r v := by
  have whole := (regWriteFrame_whole s p address (v.extractLsb' 24 8) (v.extractLsb' 16 8) (v.extractLsb' 8 8)
    (v.extractLsb' 0 8) (crc8 (0x82#8 :: address :: wordBytes v)) []).trans (if_neg (not_not.mpr rfl))
  rw [hr, bytesWord_wordBytes] at whole
  exact (regFrame_write s p _).trans whole

/-- Settles O15: each register's row stores its value, and a good frame of its address is its row. -/
theorem registerWritesStore : Obligations.RegisterWritesStore := by
  refine ⟨fun p s value hl => ⟨?_, ?_, ?_, ?_⟩, fun p s value => ⟨?_, ?_, ?_, ?_, ?_⟩⟩
  · exact congrArg Host.Outcome.next (registerFrame_listening hl .eventEnable value)
  · exact congrArg Host.Outcome.next (registerFrame_listening hl (.deadline .urgent) value)
  · exact congrArg Host.Outcome.next (registerFrame_listening hl (.deadline .routine) value)
  · exact congrArg Host.Outcome.next (registerFrame_listening hl .meterThreshold value)
  all_goals exact congrArg Host.Outcome.next (regFrame_good s p rfl value)

/-- Settles O16: the flags named by a 1 are cleared. -/
theorem eventFlagsWriteClears : Obligations.EventFlagsWriteClears := by
  intro p s value hl
  refine ⟨(framed (s.port p) (List.replicate 6 0#8)).clearFlags value,
    congrArg Host.Outcome.next (registerFrame_listening hl .eventFlags value), rfl, fun i => ?_, rfl, rfl⟩
  change ((s.port p).latched &&& ~~~(value.setWidth 15)).getLsbD i = _
  by_cases hi : i < 15
  · simp [hi]
  · simp [BitVec.getLsbD_of_ge (s.port p).latched i (by omega)]

/-! ## FETCH (R180, R181) -/

/-- A FETCH frame of a listening port shifts out its status byte and the response, cut to the bytes clocked. -/
theorem fetchFrame_listening {s : State} {p : Port} (h : Listening s p) {clocked : Nat} (hc : 1 ≤ clocked) {r : Response}
    (hr : (s.port p).engine.fetched = r) :
    s.fetchFrame p clocked = s.setPort p
      { framed (s.port p)
          ((responseBytes r ++ List.replicate (clocked - (r.payload.length + 4)) 0#8).take (clocked - 1)) with
        engine := (s.port p).engine.afterFetch clocked } := by
  have shifted : ∀ b, fetchMiso r clocked b
      = b :: (responseBytes r ++ List.replicate (clocked - (r.payload.length + 4)) 0#8).take (clocked - 1) := fun b => by
    obtain ⟨n, rfl⟩ := Nat.exists_eq_add_of_le' hc
    rfl
  rw [fetchFrame_eq s p hc, hr, State.frame_listening h shifted, State.modifyPort_eq, State.port_setPort_self,
    State.setPort_setPort]
  rfl

/-- Settles O17: the response of the engine, a held one or NO_RESPONSE, and the release of a held one. -/
theorem fetchReturnsAndReleases : Obligations.FetchReturnsAndReleases := by
  intro p s clocked hc hl
  refine ⟨fun r hr => ?_, fun hnone => ?_⟩
  · have hfetch := fetchFrame_listening hl hc (r := r) (by rw [hr]; rfl)
    rw [hr] at hfetch
    refine congrArg Host.Outcome.next (hfetch.trans ?_)
    simp [responseBytes, byteOf, Engine.afterFetch]
  · have stays : (s.port p).engine.afterFetch clocked = (s.port p).engine := by
      cases h : (s.port p).engine with
      | held r =>
        rw [h] at hnone
        cases hnone
      | _ => rfl
    have hfetch := fetchFrame_listening hl hc (r := { result := .noResponse, payload := [] }) (by
      cases h : (s.port p).engine with
      | held r =>
        rw [h] at hnone
        cases hnone
      | _ => rfl)
    rw [stays] at hfetch
    exact congrArg Host.Outcome.next hfetch

/-! ## The register window (R188) -/

/-- The table as the list of its descriptors. -/
theorem table_toList (s : State) : s.table.toList = (List.finRange 128).map s.desc := by
  apply List.ext_getElem
  · simp
  · intro i h1 h2
    simp [State.desc]

/-- DESCRIPTORS_IN_USE counts the descriptors that are not FREE (R12). -/
theorem descriptorsInUse_eq (s : State) :
    s.descriptorsInUse = (List.finRange 128).countP fun i => decide ((s.desc i).state ≠ .free) := by
  rw [State.descriptorsInUse, table_toList, List.countP_map]
  rfl

theorem yesNo_holdsClaim (s : State) (p : Port) :
    yesNo (s.holdsClaim p) = if s.claim.map Claim.holder = some p then 1#8 else 0#8 := by
  unfold State.holdsClaim
  cases s.claim with
  | none => rfl
  | some c => simp [yesNo]

theorem readRegister_none {a : Byte} (h : a ∉ [0x00#8, 0x01#8, 0x02#8, 0x03#8, 0x04#8, 0x05#8, 0x06#8, 0x10#8, 0x11#8,
    0x12#8, 0x18#8, 0x19#8, 0x1A#8, 0x1B#8, 0x1C#8]) (s : State) (p : Port) : s.readRegister p a = 0#32 := by
  simp only [List.mem_cons, List.not_mem_nil, or_false, not_or] at h
  simp only [State.readRegister, h, if_false]

/-- PORT_STATE is the word of its four bytes. -/
theorem readRegister_portState (s : State) (p : Port) :
    wordBytes (s.readRegister p 0x10#8)
      = [(s.port p).engine.code, yesNo (s.holdsClaim p), (s.port p).epoch, (s.port p).session.code] :=
  wordBytes_bytesWord _ _ _ _

theorem stateFlags_getLsbD (x : PortState) (i : Nat) :
    x.stateFlags.getLsbD i
      = ((x.engine.isHeld && (1#15).getLsbD i) || (decide (x.notices ≠ []) && (2#15).getLsbD i)
          || (decide (x.inbound.urgent.entries ≠ []) && (4#15).getLsbD i)
          || (decide (x.inbound.routine.entries ≠ []) && (8#15).getLsbD i)) := by
  simp only [PortState.stateFlags, BitVec.getLsbD_or, getLsbD_ite, Bool.decide_eq_true]

theorem isHeld_iff (e : Engine) : e.isHeld = true ↔ ∃ r, e = .held r := by
  cases e <;> simp [Engine.isHeld]

/-- Settles O18: the window address by address, and a read frame of it. -/
theorem registerWindowShows : Obligations.RegisterWindowShows := by
  intro p s
  obtain ⟨engine, claim, epoch, session⟩ : _ ∧ _ ∧ _ ∧ _ := by
    simpa [wordBytes] using readRegister_portState s p
  refine ⟨rfl, rfl, fun hc => ?_, fun q n hc => ?_, rfl, rfl, rfl, congrArg (BitVec.ofNat 32) (descriptorsInUse_eq s), ?_, ?_,
    epoch, ?_, rfl, fun hu hr => ?_, rfl, ?_, ?_, ?_, ?_, fun i hi => ?_, rfl, rfl, rfl, rfl,
    fun a ha => readRegister_none ha s p, fun a more v hl hv => ?_⟩
  · rw [State.readRegister]
    simp only [hc]
    rfl
  · rw [State.readRegister]
    simp only [hc]
    rfl
  · rw [engine]
    cases (s.port p).engine <;> rfl
  · rw [claim, yesNo_holdsClaim]
  · rw [session]
    cases (s.port p).session <;> rfl
  · change (bytesWord 0#8 0#8 (byteOf (s.queue p .urgent).entries.length) (byteOf (s.queue p .routine).entries.length)).toNat = _
    rw [bytesWord_toNat, byteOf_toNat (by omega), byteOf_toNat (by omega), BitVec.toNat_ofNat]
    omega
  · rw [stateFlags_getLsbD, ← isHeld_iff]
    simp
  · rw [stateFlags_getLsbD]
    simp
  · rw [stateFlags_getLsbD]
    simp [State.queue, PerLane.get]
  · rw [stateFlags_getLsbD]
    simp [State.queue, PerLane.get]
  · have beyond : ∀ x : BitVec 15, x.toNat < 2 ^ 4 → x.getLsbD i = false := fun x hx => by
      rw [← BitVec.testBit_toNat, Nat.testBit_lt_two_pow (lt_of_lt_of_le hx (Nat.pow_le_pow_right (by decide) hi))]
    rw [stateFlags_getLsbD, beyond 1#15 (by decide), beyond 2#15 (by decide), beyond 4#15 (by decide),
      beyond 8#15 (by decide)]
    simp
  · refine congrArg Host.Outcome.next ?_
    rw [regFrame_read, State.regReadFrame_listening hl, ← hv]
    rfl

end Registers
end Sys2Proof
end

section
/-! PROOFS. Encodings: handles and the argument bytes of section 11.7. -/

namespace Sys2Proof
namespace Encodings

open Sys2Proof.Machine Sys2Proof.Safety

-- One theorem after the other: side by side their elaborations hold more threads than the sandbox has room for.
set_option Elab.async false

/-! ## Handles (R6) -/

/-- Settles O10: generation and index are the quotient and the remainder by 128. -/
theorem handleParts : Obligations.HandleParts := by
  refine ⟨fun g i => ?_, fun h => (Deliveries.handle_eq_iff.mpr ⟨rfl, rfl⟩).symm⟩
  obtain ⟨hi, hg⟩ := Deliveries.handle_eq_iff.mp (rfl : handleOf g i = handleOf g i)
  exact ⟨hi, hg, handleOf_toNat g i⟩

/-! ## Argument bytes (11.7) -/

theorem ne_of_le {b : Byte} {n k : Nat} (h : n ≤ b.toNat) (hk : k < n) : b ≠ BitVec.ofNat 8 k := by
  rintro rfl
  rw [BitVec.toNat_ofNat] at h
  have := Nat.mod_le k (2 ^ 8)
  omega

theorem laneOf_none {b : Byte} (h : 2 ≤ b.toNat) : laneOf b = none := by
  rw [laneOf, if_neg (ne_of_le h (by decide)), if_neg (ne_of_le h (by decide))]

theorem modeOf_none {b : Byte} (h : 2 ≤ b.toNat) : modeOf b = none := by
  rw [modeOf, if_neg (ne_of_le h (by decide)), if_neg (ne_of_le h (by decide))]

theorem yesNoOf_none {b : Byte} (h : 2 ≤ b.toNat) : yesNoOf b = none := by
  rw [yesNoOf, if_neg (ne_of_le h (by decide)), if_neg (ne_of_le h (by decide))]

theorem selectionOf_none {b : Byte} (h : 3 ≤ b.toNat) : selectionOf b = none := by
  rw [selectionOf, if_neg (ne_of_le h (by decide)), laneOf_none (by omega)]
  rfl

theorem fieldOf_none {b : Byte} (h : 6 ≤ b.toNat) : fieldOf b = none := by
  rw [fieldOf, if_neg (ne_of_le h (by decide)), if_neg (ne_of_le h (by decide)), if_neg (ne_of_le h (by decide)),
    if_neg (ne_of_le h (by decide)), if_neg (ne_of_le h (by decide)), if_neg (ne_of_le h (by decide))]

theorem setOf_none {b : Byte} (h : 16 ≤ b.toNat) : Machine.setOf b = none :=
  if_neg (by omega)

theorem portOf_none {b : Byte} (h : 4 ≤ b.toNat) : portOf b = none := by
  refine List.find?_eq_none.mpr fun p _ => ?_
  have : p.toNat < 4 := by cases p <;> decide
  simpa [portByte, byteOf, eq_comm] using ne_of_le h this

/-- A port's own byte names it. -/
theorem portOf_portByte (p : Port) : portOf (BitVec.ofNat 8 p.toNat) = some p := by cases p <;> rfl

theorem laneOf_laneByte (l : Lane) : laneOf (laneByte l) = some l := by cases l <;> rfl

/-- Settles O9: the fixed values by evaluation, and the bytes that name nothing by the tests that they fail. -/
theorem fixedEncodings : Obligations.FixedEncodings :=
  ⟨by decide +kernel, by decide +kernel, by decide, by decide, rfl, by decide, rfl, fun _ => fieldOf_none, rfl, fun _ => portOf_none, rfl,
    fun _ => laneOf_none, rfl, fun _ => selectionOf_none, rfl, fun _ => modeOf_none, rfl, rfl, fun _ => yesNoOf_none, rfl,
    fun _ => setOf_none, rfl⟩

end Encodings
end Sys2Proof
end

section
/-! PROOFS. The check order of every command: code and length, session, claim, and the lease of a holder's port (R130, R153,
R158, R184). -/

namespace Sys2Proof
namespace Checks

open Sys2Proof.Machine Sys2Proof.Safety Sys2Proof.Frames

-- One theorem after the other: side by side their elaborations hold more threads than the sandbox has room for.
set_option Elab.async false

/-! ## Code and length (R184, step 2) -/

/-- Settles O20: every command row is the issue of its command, which refuses a wrong code or length first. -/
theorem badCommandRefused : Obligations.BadCommandRefused := by
  intro c s p code args hc hlen ha hfit
  obtain ⟨-, body, hbody⟩ := exec_commandRow hc
  rw [hbody, issue_badCommand body ha hlen hfit]
  rfl

/-- A code of R186 allows the lengths of its row of the table. -/
theorem length_of_fits {code : Byte} {n least greatest : Nat} (h : LengthFits code n)
    (hcode : ∀ r ∈ lengthTable, r.1 = code → r.2 = (least, greatest) := by decide) : least ≤ n ∧ n ≤ greatest := by
  obtain ⟨r, hr, hrc, hmin, hmax⟩ := h
  have hbounds := hcode r hr hrc
  rw [hbounds] at hmin hmax
  exact ⟨hmin, hmax⟩

/-- An unknown code has no length that fits. -/
theorem not_fits_of_unknown {code : Byte} {n : Nat} (h : (isCommandByte code && !commandCodes.contains code) = true) :
    ¬LengthFits code n := by
  rintro ⟨r, hr, rfl, -⟩
  have known : ∀ r ∈ lengthTable, commandCodes.contains r.1 = true := by decide
  rw [known r hr] at h
  simp at h

theorem length_eq_one {as : List Byte} (h : 1 ≤ as.length ∧ as.length ≤ 1) : ∃ a, as = [a] :=
  List.length_eq_one_iff.mp (by omega)

theorem length_eq_two {as : List Byte} (h : 2 ≤ as.length ∧ as.length ≤ 2) : ∃ a b, as = [a, b] :=
  List.length_eq_two.mp (by omega)

theorem length_eq_four {as : List Byte} (h : 4 ≤ as.length ∧ as.length ≤ 4) : ∃ a b c d, as = [a, b, c, d] := by
  match as, h with
  | [a, b, c, d], _ => exact ⟨a, b, c, d, rfl⟩

theorem length_eq_seven {as : List Byte} (h : 7 ≤ as.length ∧ as.length ≤ 7) :
    ∃ a b c d e f g, as = [a, b, c, d, e, f, g] := by
  match as, h with
  | [a, b, c, d, e, f, g], _ => exact ⟨a, b, c, d, e, f, g, rfl⟩

/-- WRITE has its handle, its offset and at least one byte. -/
theorem length_ge_four {as : List Byte} (h : 4 ≤ as.length ∧ as.length ≤ 67) :
    ∃ a b c data, as = a :: b :: c :: data ∧ 1 ≤ data.length := by
  match as, h with
  | a :: b :: c :: d :: data, _ => exact ⟨a, b, c, d :: data, rfl, by simp⟩

/-! ## The session and claim steps (R130, R158) -/

/-- The commands that an OFFLINE port may use (R130). -/
def offlineToo (code : Byte) : Bool := decide (code ∈ [0x01#8, 0x23#8, 0x30#8, 0x31#8])

/-- The commands that need the claim (R158). -/
abbrev needsClaim (code : Byte) : Prop := code ∈ [0x42#8, 0x03#8, 0x4F#8, 0x41#8]

/-- A command of an allowed length refuses at its session step, and then at its claim step, before anything else. -/
structure Checked (p : Port) (code : Byte) (body : List Byte → State → StepOutcome) : Prop where
  session : ∀ {as : List Byte} {s : State} {r : Result}, LengthFits code as.length →
    sessionCheck (offlineToo code) p s = some r → body as s = refuse p r s
  claim : needsClaim code → ∀ {as : List Byte} {s : State} {r : Result}, LengthFits code as.length →
    sessionCheck false p s = none → claimCheck p s = some r → body as s = refuse p r s

/-- A command that needs no claim. -/
theorem Checked.of_session {p : Port} {code : Byte} {body : List Byte → State → StepOutcome} (hcode : ¬needsClaim code)
    (h : ∀ {as : List Byte} {s : State} {r : Result}, LengthFits code as.length →
      sessionCheck (offlineToo code) p s = some r → body as s = refuse p r s) : Checked p code body :=
  ⟨h, fun hc => absurd hc hcode⟩

theorem checked_attach (p : Port) : Checked p 0x01#8 (attachBody p) := by
  refine .of_session (by decide) fun {as s r} _ h => ?_
  rw [show offlineToo 0x01#8 = true from rfl] at h
  unfold sessionCheck at h
  unfold attachBody
  split at h
  · cases h
  · cases h
  · next hs =>
    cases h
    rw [hs]

theorem checked_detach (p : Port) : Checked p 0x02#8 (detachBody p) :=
  .of_session (by decide) fun _ h => by rw [detachBody, show sessionCheck false p _ = _ from h]

theorem checked_forceDetach (p : Port) : Checked p 0x03#8 (forceDetachBody p) where
  session {as s r} hl h := by
    obtain ⟨a, rfl⟩ := length_eq_one (length_of_fits hl)
    rw [forceDetachBody, show sessionCheck false p s = _ from h]
    rfl
  claim _ {as s r} hl hs hc := by
    obtain ⟨a, rfl⟩ := length_eq_one (length_of_fits hl)
    rw [forceDetachBody, hs, hc]
    rfl

theorem checked_open (p : Port) : Checked p 0x10#8 (openBody p) :=
  .of_session (by decide) fun {as s r} hl h => by
    obtain ⟨a, b, c, d, e, f, g, rfl⟩ := length_eq_seven (length_of_fits hl)
    rw [openBody, show sessionCheck false p s = _ from h]

theorem checked_write (p : Port) : Checked p 0x11#8 (writeBody p) :=
  .of_session (by decide) fun {as s r} hl h => by
    obtain ⟨a, b, c, data, rfl, -⟩ := length_ge_four (length_of_fits hl)
    rw [writeBody, show sessionCheck false p s = _ from h]

theorem checked_abandon (p : Port) : Checked p 0x12#8 (abandonBody p) :=
  .of_session (by decide) fun {as s r} hl h => by
    obtain ⟨a, b, rfl⟩ := length_eq_two (length_of_fits hl)
    rw [abandonBody, show sessionCheck false p s = _ from h]

theorem checked_post (p : Port) : Checked p 0x13#8 (postBody p) :=
  .of_session (by decide) fun {as s r} hl h => by
    obtain ⟨a, b, rfl⟩ := length_eq_two (length_of_fits hl)
    rw [postBody, show sessionCheck false p s = _ from h]

theorem checked_peek (p : Port) : Checked p 0x20#8 (peekBody p) :=
  .of_session (by decide) fun {as s r} hl h => by
    obtain ⟨a, rfl⟩ := length_eq_one (length_of_fits hl)
    rw [peekBody, show sessionCheck false p s = _ from h]

theorem checked_read (p : Port) : Checked p 0x21#8 (readBody p) :=
  .of_session (by decide) fun {as s r} hl h => by
    obtain ⟨a, b, c, d, rfl⟩ := length_eq_four (length_of_fits hl)
    rw [readBody, show sessionCheck false p s = _ from h]

theorem checked_done (p : Port) : Checked p 0x22#8 (doneBody p) :=
  .of_session (by decide) fun {as s r} hl h => by
    obtain ⟨a, b, rfl⟩ := length_eq_two (length_of_fits hl)
    rw [doneBody, show sessionCheck false p s = _ from h]

theorem checked_notices (p : Port) : Checked p 0x23#8 (noticesBody p) :=
  .of_session (by decide) fun {as s r} hl h => by
    obtain ⟨a, rfl⟩ := length_eq_one (length_of_fits hl)
    rw [noticesBody, show sessionCheck true p s = _ from h]

theorem checked_account (p : Port) : Checked p 0x30#8 (accountBody p) :=
  .of_session (by decide) fun {as s r} _ h => by rw [accountBody, show sessionCheck true p s = _ from h]

theorem checked_meters (p : Port) : Checked p 0x31#8 (metersBody p) :=
  .of_session (by decide) fun {as s r} hl h => by
    obtain ⟨a, rfl⟩ := length_eq_one (length_of_fits hl)
    rw [metersBody, show sessionCheck true p s = _ from h]

theorem checked_claim (p : Port) : Checked p 0x40#8 (claimBody p) :=
  .of_session (by decide) fun {as s r} _ h => by rw [claimBody, show sessionCheck false p s = _ from h]

theorem checked_release (p : Port) : Checked p 0x41#8 (releaseBody p) where
  session {as s r} _ h := by
    rw [releaseBody, show sessionCheck false p s = _ from h]
    rfl
  claim _ {as s r} _ hs hc := by
    rw [releaseBody, hs, hc]
    rfl

theorem checked_configure (p : Port) : Checked p 0x42#8 (configureBody p) where
  session {as s r} hl h := by
    obtain ⟨a, b, c, d, rfl⟩ := length_eq_four (length_of_fits hl)
    rw [configureBody, show sessionCheck false p s = _ from h]
    rfl
  claim _ {as s r} hl hs hc := by
    obtain ⟨a, b, c, d, rfl⟩ := length_eq_four (length_of_fits hl)
    rw [configureBody, hs, hc]
    rfl

theorem checked_configRead (p : Port) : Checked p 0x43#8 (configReadBody p) :=
  .of_session (by decide) fun {as s r} hl h => by
    obtain ⟨a, rfl⟩ := length_eq_one (length_of_fits hl)
    rw [configReadBody, show sessionCheck false p s = _ from h]

theorem checked_hubReset (p : Port) : Checked p 0x4F#8 (hubResetBody p) where
  session {as s r} _ h := by
    rw [hubResetBody, show sessionCheck false p s = _ from h]
    rfl
  claim _ {as s r} _ hs hc := by
    rw [hubResetBody, hs, hc]
    rfl

/-! ## The lease is kept by what a command does (R153) -/

/-- What an outcome leaves of the claim. -/
def LeavesClaim (s : State) (o : StepOutcome) : Prop := ∀ t, o = .next t → t.claim = s.claim

@[simp] theorem leavesClaim_next {s t : State} : LeavesClaim s (.next t) ↔ t.claim = s.claim := by
  simp [LeavesClaim]

@[simp] theorem leavesClaim_fault (s : State) (f : Fault) : LeavesClaim s (.fault f) := by
  intro t h
  cases h

@[simp] theorem leavesClaim_refuse {s t : State} {p : Port} {r : Result} :
    LeavesClaim s (refuse p r t) ↔ t.claim = s.claim := leavesClaim_next

@[simp] theorem offer_claim (s : State) (p : Port) (n : Notice) : (s.offer p n).claim = s.claim := by
  rw [State.offer_eq]

@[simp] theorem refund_claim (s : State) (m : Message) : (s.refund m).claim = s.claim := rfl

@[simp] theorem dropHead_claim (s : State) (p : Port) (l : Lane) : (s.dropHead p l).claim = s.claim := by
  unfold State.dropHead
  dsimp only
  split <;> rfl

@[simp] theorem removeHead_claim (s : State) (p : Port) (l : Lane) (hd : Head) (o : ReaderOutcome) :
    (s.removeHead p l hd o).claim = s.claim := by
  unfold State.removeHead State.finishReader State.retire
  dsimp only
  split <;> simp

@[simp] theorem abandonMessage_claim (s : State) (i : DescIndex) : (s.abandonMessage i).claim = s.claim := by
  unfold State.abandonMessage
  split <;> simp

theorem leaves_attach (p : Port) (as : List Byte) (s : State) : LeavesClaim s (attachBody p as s) := by
  unfold attachBody
  split <;> simp

theorem leaves_forceDetach (p : Port) (as : List Byte) (s : State) : LeavesClaim s (forceDetachBody p as s) := by
  unfold forceDetachBody State.beginDetach
  repeat' split
  all_goals simp

theorem leaves_open (p : Port) (as : List Byte) (s : State) : LeavesClaim s (openBody p as s) := by
  unfold openBody
  repeat' split
  all_goals simp [State.allocate]

theorem leaves_write (p : Port) (as : List Byte) (s : State) : LeavesClaim s (writeBody p as s) := by
  unfold writeBody
  repeat' split
  all_goals simp

theorem leaves_abandon (p : Port) (as : List Byte) (s : State) : LeavesClaim s (abandonBody p as s) := by
  unfold abandonBody
  repeat' split
  all_goals simp

theorem leaves_postDecision (p : Port) (i : DescIndex) (m : Message) (s : State) :
    LeavesClaim s (postDecision p i m s) := by
  unfold postDecision postNow State.deliverOk State.deliverFail State.holdPost
  dsimp only
  repeat' split
  all_goals simp

theorem leaves_post (p : Port) (as : List Byte) (s : State) : LeavesClaim s (postBody p as s) := by
  unfold postBody
  repeat' split
  all_goals simp [leaves_postDecision]

theorem leaves_peek (p : Port) (as : List Byte) (s : State) : LeavesClaim s (peekBody p as s) := by
  unfold peekBody
  repeat' split
  all_goals simp

theorem leaves_read (p : Port) (as : List Byte) (s : State) : LeavesClaim s (readBody p as s) := by
  unfold readBody readTaken State.setFault
  dsimp only
  repeat' split
  all_goals simp

theorem leaves_done (p : Port) (as : List Byte) (s : State) : LeavesClaim s (doneBody p as s) := by
  unfold doneBody
  repeat' split
  all_goals simp

theorem leaves_notices (p : Port) (as : List Byte) (s : State) : LeavesClaim s (noticesBody p as s) := by
  unfold noticesBody
  repeat' split
  all_goals simp

theorem leaves_account (p : Port) (as : List Byte) (s : State) : LeavesClaim s (accountBody p as s) := by
  unfold accountBody
  split <;> simp

theorem leaves_meters (p : Port) (as : List Byte) (s : State) : LeavesClaim s (metersBody p as s) := by
  unfold metersBody
  dsimp only
  repeat' split
  all_goals simp

/-- A CLAIM of the holder leaves the claim that its taking has renewed (R152). -/
theorem leaves_claim (p : Port) (as : List Byte) {s : State}
    (hc : s.claim = some { holder := p, lease := Config.claimLease }) : LeavesClaim s (claimBody p as s) := by
  unfold claimBody
  repeat' split
  all_goals simp [hc]

theorem leaves_configure (p : Port) (as : List Byte) (s : State) : LeavesClaim s (configureBody p as s) := by
  unfold configureBody State.configureTaken
  dsimp only
  repeat' split
  all_goals simp

theorem leaves_configRead (p : Port) (as : List Byte) (s : State) : LeavesClaim s (configReadBody p as s) := by
  unfold configReadBody
  repeat' split
  all_goals simp

/-! ## Command rows -/

/-- What the body of a command does with the claim: nothing, unless it is DETACH, RELEASE or HUB_RESET. -/
def LeaseKept (p : Port) (code : Byte) (body : List Byte → State → StepOutcome) : Prop :=
  code ∉ [0x02#8, 0x41#8, 0x4F#8] → ∀ (as : List Byte) {s : State},
    s.claim = some { holder := p, lease := Config.claimLease } → LeavesClaim s (body as s)

theorem LeaseKept.of_leaves {p : Port} {code : Byte} {body : List Byte → State → StepOutcome}
    (h : ∀ as s, LeavesClaim s (body as s)) : LeaseKept p code body := fun _ as s _ => h as s

theorem LeaseKept.of_ending {p : Port} {code : Byte} {body : List Byte → State → StepOutcome}
    (h : code ∈ [0x02#8, 0x41#8, 0x4F#8]) : LeaseKept p code body := fun hc => absurd h hc

/-- Every command row is the issue of a command with these checks, which keeps a renewed lease. -/
theorem commandRow_body {c : Instr} {p : Port} {code : Byte} {args : List Byte} (h : commandRow c = some (p, code, args)) :
    ∃ body, (∀ s, exec c s = issue p code args body s) ∧ Checked p code body ∧ LeaseKept p code body := by
  cases c with
  | attach q as => cases h; exact ⟨_, fun _ => rfl, checked_attach p, .of_leaves (leaves_attach p)⟩
  | detach q as => cases h; exact ⟨_, fun _ => rfl, checked_detach p, .of_ending (by decide)⟩
  | forceDetach q as => cases h; exact ⟨_, fun _ => rfl, checked_forceDetach p, .of_leaves (leaves_forceDetach p)⟩
  | openMessage q as => cases h; exact ⟨_, fun _ => rfl, checked_open p, .of_leaves (leaves_open p)⟩
  | write q as => cases h; exact ⟨_, fun _ => rfl, checked_write p, .of_leaves (leaves_write p)⟩
  | abandon q as => cases h; exact ⟨_, fun _ => rfl, checked_abandon p, .of_leaves (leaves_abandon p)⟩
  | post q as => cases h; exact ⟨_, fun _ => rfl, checked_post p, .of_leaves (leaves_post p)⟩
  | peek q as => cases h; exact ⟨_, fun _ => rfl, checked_peek p, .of_leaves (leaves_peek p)⟩
  | read q as => cases h; exact ⟨_, fun _ => rfl, checked_read p, .of_leaves (leaves_read p)⟩
  | done q as => cases h; exact ⟨_, fun _ => rfl, checked_done p, .of_leaves (leaves_done p)⟩
  | notices q as => cases h; exact ⟨_, fun _ => rfl, checked_notices p, .of_leaves (leaves_notices p)⟩
  | account q as => cases h; exact ⟨_, fun _ => rfl, checked_account p, .of_leaves (leaves_account p)⟩
  | meters q as => cases h; exact ⟨_, fun _ => rfl, checked_meters p, .of_leaves (leaves_meters p)⟩
  | claim q as => cases h; exact ⟨_, fun _ => rfl, checked_claim p, fun _ as _ hc => leaves_claim p as hc⟩
  | release q as => cases h; exact ⟨_, fun _ => rfl, checked_release p, .of_ending (by decide)⟩
  | configure q as => cases h; exact ⟨_, fun _ => rfl, checked_configure p, .of_leaves (leaves_configure p)⟩
  | configRead q as => cases h; exact ⟨_, fun _ => rfl, checked_configRead p, .of_leaves (leaves_configRead p)⟩
  | hubReset q as => cases h; exact ⟨_, fun _ => rfl, checked_hubReset p, .of_ending (by decide)⟩
  | unknownCommandCode q b as =>
    rw [commandRow] at h
    split at h
    · next hb =>
      cases h
      refine ⟨unknownBody p, fun s => if_pos hb, .of_session (fun hc => ?_) fun hl => absurd hl (not_fits_of_unknown hb),
        .of_leaves fun as s => by simp [unknownBody]⟩
      have known : ∀ x ∈ [0x42#8, 0x03#8, 0x4F#8, 0x41#8], commandCodes.contains x = true := by decide
      rw [known _ hc] at hb
      simp at hb
    · cases h
  | _ => cases h

/-- Settles O21: the session step of every command, on its session state. -/
theorem sessionStepRefuses : Obligations.SessionStepRefuses := by
  intro c s p code args hc ha hl
  obtain ⟨body, hbody, checked, -⟩ := commandRow_body hc
  have refused : ∀ r, sessionCheck (offlineToo code) p (s.renewLease p) = some r → exec c s = .next (answered s p r []) :=
    fun r hr => by rw [hbody, issue_taken body ha hl, checked.session hl hr, refuse_renewed]
  refine ⟨fun hs hcode => refused _ ?_, fun q hs => refused _ ?_⟩
  · rw [sessionCheck, State.renewLease_port, hs, show offlineToo code = false from decide_eq_false hcode]
    rfl
  · rw [sessionCheck, State.renewLease_port, hs]

/-- A port without the claim renews nothing. -/
theorem renewLease_of_not_holder {s : State} {p : Port} (h : s.holdsClaim p = false) : s.renewLease p = s := by
  rw [State.renewLease, h, if_neg Bool.false_ne_true]

/-- Settles O22: the claim step of the four commands that need the claim. -/
theorem claimStepRefuses : Obligations.ClaimStepRefuses := by
  intro c s p code args hc ha hl hcode hs hclaim
  obtain ⟨body, hbody, checked, -⟩ := commandRow_body hc
  have unheld : claimCheck p s = some .noClaim := by rw [claimCheck, hclaim, if_neg Bool.false_ne_true]
  rw [hbody, issue_taken body ha hl, renewLease_of_not_holder hclaim,
    checked.claim hcode hl (sessionCheck_eq_none.mpr (.inl hs)) unheld]
  rfl

/-! ## Frames renew nothing (R153) -/

theorem frame_claim (s : State) (p : Port) (g : Byte → List Byte) {act : State → State}
    (h : ∀ t, (act t).claim = t.claim) : (s.frame p g act).claim = s.claim := by
  unfold State.frame
  split
  · rfl
  · exact h _
  · exact h _

theorem brokenFrame_claim (s : State) (p : Port) (n : Nat) : (s.brokenFrame p n).claim = s.claim :=
  frame_claim s p _ fun _ => rfl

theorem commandFrame_claim (s : State) (p : Port) (bytes : List Byte) : (s.commandFrame p bytes).claim = s.claim := by
  unfold State.commandFrame
  split
  · refine frame_claim s p _ fun t => ?_
    unfold State.decideFrame
    repeat' split
    all_goals rfl
  · rfl

theorem fetchFrame_claim (s : State) (p : Port) (n : Nat) : (s.fetchFrame p n).claim = s.claim := by
  unfold State.fetchFrame
  split
  · rfl
  · exact frame_claim s p _ fun _ => rfl

theorem regReadFrame_claim (s : State) (p : Port) (rest : List Byte) : (s.regReadFrame p rest).claim = s.claim := by
  cases rest with
  | nil => exact brokenFrame_claim s p 1
  | cons a more => exact frame_claim s p _ fun _ => rfl

theorem regWriteFrame_claim (s : State) (p : Port) (bytes : List Byte) : (s.regWriteFrame p bytes).claim = s.claim := by
  unfold State.regWriteFrame
  split
  · repeat' split
    · rfl
    · exact brokenFrame_claim s p _
    · exact frame_claim s p _ fun _ => rfl
    · exact brokenFrame_claim s p _
  · split
    · rfl
    · exact brokenFrame_claim s p _
  · rfl

theorem regFrame_claim (s : State) (p : Port) (bytes : List Byte) : (s.regFrame p bytes).claim = s.claim := by
  unfold State.regFrame
  split
  · rfl
  · split
    · exact regReadFrame_claim s p _
    · exact regWriteFrame_claim s p _

theorem registerFrame_claim (s : State) (p : Port) (r : WritableRegister) (v : Word) :
    (s.registerFrame p r v).claim = s.claim := frame_claim s p _ fun _ => rfl

theorem leaves_shortFrame (p : Port) (bytes : List Byte) (s : State) : LeavesClaim s (execShortFrame p bytes s) := by
  unfold execShortFrame
  split
  · exact leavesClaim_next.mpr rfl
  · split
    · exact leavesClaim_next.mpr (brokenFrame_claim s p _)
    · exact leavesClaim_next.mpr rfl

/-- Settles O23: the taking of a holder's command renews its lease, its body leaves it, and no frame touches it. -/
theorem leaseRenewedByHolder : Obligations.LeaseRenewedByHolder := by
  refine ⟨fun c s t p code args hc ha hl hcode hclaim ht => ?_, fun c s t p n l v bytes hc => ?_⟩
  · obtain ⟨body, hbody, -, kept⟩ := commandRow_body hc
    have renewed : (s.renewLease p).claim = some { holder := p, lease := Config.claimLease } := by
      rw [State.renewLease, hclaim, if_pos rfl]
    rw [hbody, issue_taken body ha hl] at ht
    exact (kept hcode args renewed t ht).trans renewed
  · suffices leaves : LeavesClaim s (exec c s) from leaves t
    simp only [List.mem_cons, List.not_mem_nil, or_false] at hc
    rcases hc with rfl | rfl | rfl | rfl | rfl | rfl | rfl | rfl | rfl | rfl
    · exact leavesClaim_next.mpr (fetchFrame_claim s p n)
    · exact leavesClaim_next.mpr (regReadFrame_claim s p [])
    · exact leavesClaim_next.mpr (regFrame_claim s p bytes)
    · exact leavesClaim_next.mpr (registerFrame_claim s p _ v)
    · exact leavesClaim_next.mpr (registerFrame_claim s p _ v)
    · exact leavesClaim_next.mpr (registerFrame_claim s p _ v)
    · exact leavesClaim_next.mpr (registerFrame_claim s p _ v)
    · exact leavesClaim_next.mpr (commandFrame_claim s p bytes)
    · exact leaves_shortFrame p bytes s
    · exact leavesClaim_next.mpr rfl

end Checks
end Sys2Proof
end

section
/-! PROOFS. What the shared operations of the queue and credit units do to each port and to the table, in the words of the
statements: refunds, offers, removals of head entries and delivery steps (chapters 2, 4, 5 and 7). -/

namespace Sys2Proof
namespace Effects

open Sys2Proof.Machine Sys2Proof.Safety

-- One theorem after the other: side by side their elaborations hold more threads than the sandbox has room for.
set_option Elab.async false

/-! ## One descriptor -/

/-- The one descriptor that a handle names gets a new state under its own generation. -/
theorem tableChangesAt_setDesc {s : State} {h : Handle} {e : DescState} (hn : Names s h e) (d : DescState) :
    TableChangesAt s (s.setDesc (handleIndex h) { generation := (s.desc (handleIndex h)).generation, state := d }) h d := by
  refine ⟨fun i hi => State.desc_setDesc_ne s _ hi, ?_⟩
  rw [State.desc_setDesc_self, hn.2]

theorem tableFreesAt_freeDesc {s : State} {h : Handle} {e : DescState} (hn : Names s h e) :
    TableFreesAt s (s.freeDesc (handleIndex h)) h := by
  refine ⟨fun i hi => State.desc_setDesc_ne s _ hi, ?_⟩
  rw [State.freeDesc, State.desc_setDesc_self, hn.2]

/-- The handle of a descriptor's message is the one that names it. -/
theorem handleAt_of_names {s : State} {h : Handle} {e : DescState} (hn : Names s h e) : s.handleAt (handleIndex h) = h :=
  (Deliveries.handle_eq_iff.mpr ⟨rfl, hn.2.symm⟩).symm

theorem names_handleAt (s : State) (i : DescIndex) : Names s (s.handleAt i) (s.desc i).state := by
  rw [Names, Events.handleAt_index, Events.handleAt_generation]
  exact ⟨rfl, rfl⟩

/-! ## Refunds and offers -/

/-- A refund at each port (R29, R32). -/
theorem refund_port (s : State) (m : Message) (q : Port) : (s.refund m).port q = refunded m q (s.port q) := by
  have paid : ∀ y : PortState, y.creditWait = (s.port q).creditWait →
      (if m.resolves q then y.resolveMarker else y)
        = if (s.port q).creditWait = true ∧ (1 ≤ m.sharedCharge ∨ q = m.source ∧ 1 ≤ m.reservedCharge) then
            { y.raise .creditFreed with creditWait := false }
          else y := fun y hy => by
    by_cases hr : 1 ≤ m.sharedCharge ∨ q = m.source ∧ 1 ≤ m.reservedCharge
    · simp only [Message.resolves, hr, decide_true, if_true, PortState.resolveMarker, hy, and_true]
    · simp only [Message.resolves, hr, decide_false, Bool.false_eq_true, if_false, and_false]
  rw [State.refund_port]
  unfold refunded
  by_cases hq : q = m.source
  · simp only [if_pos hq]
    exact paid _ rfl
  · simp only [if_neg hq]
    exact paid _ rfl

/-- An offer at each port (R111). -/
theorem offer_port (s : State) (p q : Port) (n : Notice) :
    (s.offer p n).port q = if q = p then offered n (s.port q) else s.port q := by
  rw [State.offer_port]
  by_cases hq : q = p
  · subst hq
    simp only [true_and, if_true]
    rfl
  · simp only [hq, false_and, if_false]

/-! ## What a change touches -/

/-- Nothing but ports, the table and the free list differs. -/
abbrev Within (s t : State) : Prop := t = { s with ports := t.ports, table := t.table, freeList := t.freeList }

theorem Within.trans {s t u : State} (h : Within s t) (k : Within t u) : Within s u := by
  have same : { t with ports := u.ports, table := u.table, freeList := u.freeList }
      = { s with ports := u.ports, table := u.table, freeList := u.freeList } := by rw [h]
  exact Eq.trans k same

theorem within_offer (s : State) (p : Port) (n : Notice) : Within s (s.offer p n) := by
  rw [Within, State.offer_table, State.offer_freeList, ← State.offer_eq]

/-! ## Removals of head entries (R79, R82, R93) -/

/-- The head entry of a queue with the LIVE message that it names. -/
theorem head_of_names {s : State} {p : Port} {l : Lane} {e : Entry} {rest : List Entry} {m : Message} {d : Delivery}
    (he : (s.queue p l).entries = e :: rest) (hn : Names s e.handle (.live m d)) :
    s.head p l = some (some { entry := e, message := m, delivery := d }) := by
  rw [State.head, he]
  simp only [State.liveEntry_eq_some.mpr hn]

theorem head_of_empty {s : State} {p : Port} {l : Lane} (he : (s.queue p l).entries = []) : s.head p l = some none := by
  rw [State.head, he]

/-- A removal's records are the finished ones. -/
theorem setOutcome_eq (p : Port) (o : ReaderOutcome) (d : Delivery) : setOutcome p o d.outcomes = finishedOutcomes p o d := by
  refine List.map_congr_left fun r _ => ?_
  split
  · next h => rw [h.1]
  · rfl

/-- Port `q` when the head entry has left queue (p, l), the message apart (R79, R82). -/
def headLeft (s : State) (p : Port) (l : Lane) (q : Port) : PortState :=
  raisedIf (decide ((s.queue p l).entries.length = 32) && decide (q ∈ (s.queue p l).waiters)) .queueSpace
    (if q = p then
      { s.port q with
        inbound := (s.port q).inbound.set l
          { s.queue p l with
            entries := (s.queue p l).entries.tail
            waiters := if decide ((s.queue p l).entries.length = 32) then [] else (s.queue p l).waiters } }
    else s.port q)

theorem dropHead_port (s : State) (p : Port) (l : Lane) (q : Port) : (s.dropHead p l).port q = headLeft s p l q := by
  unfold State.dropHead headLeft raisedIf
  by_cases hfull : (s.queue p l).entries.length = 32
  · simp only [hfull, Config.queueDepth, if_true, decide_true, Bool.true_and, State.port_raiseWhere, State.modifyQueue,
      State.port_modifyPort]
    by_cases hq : q = p
    · subst hq
      rfl
    · simp only [hq, if_false]
  · simp only [hfull, Config.queueDepth, if_false, decide_false, Bool.false_and, State.modifyQueue, State.port_modifyPort,
      Bool.false_eq_true]
    by_cases hq : q = p
    · subst hq
      rfl
    · simp only [hq, if_false]

theorem dropHead_within (s : State) (p : Port) (l : Lane) : Within s (s.dropHead p l) := by
  unfold State.dropHead
  dsimp only
  split <;> rfl

theorem dropHead_table (s : State) (p : Port) (l : Lane) : (s.dropHead p l).table = s.table := by
  unfold State.dropHead
  dsimp only
  split <;> rfl

theorem dropHead_freeList (s : State) (p : Port) (l : Lane) : (s.dropHead p l).freeList = s.freeList := by
  unfold State.dropHead
  dsimp only
  split <;> rfl

/-- A reader that is not the last leaves its message LIVE with one reader fewer (R3). -/
theorem finishReader_left {s : State} {i : DescIndex} {m : Message} {d : Delivery} (h : ¬d.readers ≤ 1) (p : Port)
    (o : ReaderOutcome) :
    s.finishReader i m d p o
      = s.setDesc i
          { generation := (s.desc i).generation
            state := .live m { d with outcomes := finishedOutcomes p o d, readers := d.readers - 1 } } := by
  have readers : (d.finish p o).readers ≠ 0 := by
    change d.readers - 1 ≠ 0
    omega
  rw [State.finishReader, if_neg readers, Delivery.finish, setOutcome_eq]

/-- The last reader retires its message (R93). -/
theorem finishReader_last {s : State} {h : Handle} {e : DescState} {m : Message} {d : Delivery} (hr : d.readers ≤ 1)
    (hn : Names s h e) (p : Port) (o : ReaderOutcome) :
    s.finishReader (handleIndex h) m d p o
      = ((s.refund m).offer m.source (finalNotice h m d p o)).freeDesc (handleIndex h) := by
  have readers : (d.finish p o).readers = 0 := by
    change d.readers - 1 = 0
    omega
  rw [State.finishReader, if_pos readers, State.retire, handleAt_of_names hn, returnedNotice, Delivery.finish, setOutcome_eq]
  rfl

/-- A removal at each port, in the table and in the free list. -/
structure Removed (s t : State) (p : Port) (l : Lane) (h : Handle) (m : Message) (d : Delivery) (o : ReaderOutcome) :
    Prop where
  within : Within s t
  table : TableAfterRemoval s t h m d p o
  port : ∀ q, t.port q = afterRemoval s p l h m d o q

theorem removed_removeHead {s : State} {p : Port} {l : Lane} {e : Entry} {m : Message} {d : Delivery}
    (hn : Names s e.handle (.live m d)) (o : ReaderOutcome) :
    Removed s (s.removeHead p l { entry := e, message := m, delivery := d } o) p l e.handle m d o := by
  have desc : ∀ i, (s.dropHead p l).desc i = s.desc i := fun i => by rw [State.desc, dropHead_table]; rfl
  have named : Names (s.dropHead p l) e.handle (.live m d) := by
    rw [Names, desc]
    exact hn
  rw [State.removeHead]
  by_cases hr : d.readers ≤ 1
  · rw [finishReader_last hr named]
    refine ⟨(dropHead_within s p l).trans (.trans (s := s.dropHead p l) (t := (s.dropHead p l).refund m) rfl
        (.trans (within_offer _ _ _) rfl)), ⟨fun i hi => ?_, ?_, ?_⟩, fun q => ?_⟩
    · rw [State.freeDesc, State.desc_setDesc_ne _ _ hi, State.offer_desc, State.refund_desc, desc]
    · rw [if_pos hr, State.freeDesc, State.desc_setDesc_self, State.offer_desc, State.refund_desc, desc, hn.2]
    · rw [if_pos hr, State.freeDesc_freeList, State.offer_freeList, State.refund_eq, dropHead_freeList]
    · rw [State.port_freeDesc, offer_port, refund_port, dropHead_port]
      exact (if_pos hr).symm
  · rw [finishReader_left hr]
    refine ⟨(dropHead_within s p l).trans rfl, ⟨fun i hi => ?_, ?_, ?_⟩, fun q => ?_⟩
    · rw [State.desc_setDesc_ne _ _ hi, desc]
    · rw [if_neg hr, State.desc_setDesc_self, desc, hn.2]
    · rw [if_neg hr, State.setDesc_freeList, dropHead_freeList]
    · rw [State.port_setDesc, dropHead_port]
      exact (if_neg hr).symm

/-! ## Delivery steps (R58 to R63, R165) -/

theorem verdict_eq_accept {s : State} {l : Lane} {d : Port} :
    s.verdict l d = .accept ↔ (s.port d).session = .attached ∧ (s.queue d l).entries.length < 32 := by
  unfold State.verdict
  split_ifs with hs hl
  · exact iff_of_true rfl ⟨hs, hl⟩
  · exact iff_of_false (by simp) fun h => hl h.2
  · exact iff_of_false (by simp) fun h => hs h.1

theorem verdict_eq_offline {s : State} {l : Lane} {d : Port} :
    s.verdict l d = .refusedOffline ↔ (s.port d).session ≠ .attached := by
  unfold State.verdict
  split_ifs with hs hl
  · exact iff_of_false (by simp) fun h => h hs
  · exact iff_of_false (by simp) fun h => h hs
  · exact iff_of_true rfl hs

theorem verdict_eq_full {s : State} {l : Lane} {d : Port} :
    s.verdict l d = .refusedFull ↔ (s.port d).session = .attached ∧ 32 ≤ (s.queue d l).entries.length := by
  unfold State.verdict
  split_ifs with hs hl
  · exact iff_of_false (by simp) fun h => Nat.not_lt.mpr h.2 hl
  · exact iff_of_true rfl ⟨hs, Nat.not_lt.mp hl⟩
  · exact iff_of_false (by simp) fun h => hs h.1

/-- The delivery step's three sets (R58). -/
theorem judge_eq (s : State) (m : Message) :
    s.judge m = { accepting := wouldAccept s m, offline := wouldBeOffline s m, full := wouldBeFull s m } := by
  simp only [State.judge, verdict_eq_accept, verdict_eq_offline, verdict_eq_full, wouldAccept, wouldBeOffline, wouldBeFull]

theorem succeeds_iff (s : State) (m : Message) : (s.judge m).succeeds m.mode = true ↔ WouldDeliver s m := by
  rw [judge_eq, WouldDeliver]
  cases m.mode <;> exact decide_eq_true_iff

theorem reason_eq (s : State) (m : Message) : (s.judge m).reason m.mode = failure s m := by
  rw [judge_eq]
  unfold Safety.failure
  cases m.mode
  · simp only [Judgement.reason, ne_eq, ite_not]
  · simp only [Judgement.reason, ne_eq, ite_not]

/-- The waiter marks at each port (R62). -/
theorem addWaiters_port (s t : State) (m : Message) (q : Port) :
    (t.addWaiters m.source m.lane (s.judge m).full).port q = marked s m q (t.port q) := by
  rw [State.addWaiters, State.port_mapPorts, judge_eq, marked]
  rfl

/-- A successful delivery step at each port, tokens apart (R60 to R62, R165). -/
theorem deliverOk_port (s : State) (i : DescIndex) (m : Message) (q : Port) :
    (s.deliverOk i m (s.judge m)).port q = delivered s (s.handleAt i) m q := by
  have entered : ∀ (e : Entry) (r : Port), (s.appendEntries e m.lane (s.judge m).accepting).port r
      = if r ∈ wouldAccept s m then withQueue (s.port r) m.lane fun k => { k with entries := k.entries ++ [e] } else s.port r :=
    fun e r => by rw [State.appendEntries, State.port_mapPorts, judge_eq]; rfl
  have sequence : ∀ x, (marked s m q x).sequence = x.sequence := fun x => by
    unfold marked
    split <;> rfl
  unfold State.deliverOk delivered
  simp only [State.port_modifyPort, addWaiters_port, State.port_setDesc, entered]
  split
  · next hq =>
    subst hq
    simp only [sequence]
    rw [judge_eq]
    split <;> rfl
  · rfl

/-- A failed delivery step at each port (R62, R63, R165). -/
theorem deliverFail_port (s t : State) (m : Message) (q : Port) (h : ∀ r, t.port r = s.port r) :
    (t.deliverFail m (s.judge m)).port q = undelivered s m q := by
  unfold State.deliverFail State.countMeters undelivered
  simp only [State.port_modifyPort, addWaiters_port, h]
  split
  · next hq =>
    subst hq
    rw [judge_eq]
    rfl
  · rfl

/-- The table after a successful delivery step (R60). -/
theorem deliverOk_tableChangesAt {s : State} {h : Handle} {e : DescState} (hn : Names s h e) (m : Message) :
    TableChangesAt s (s.deliverOk (handleIndex h) m (s.judge m)) h (.live m (firstDelivery s m)) := by
  have delivery : (s.judge m).delivery (s.port m.source).sequence = firstDelivery s m := by
    rw [judge_eq]
    rfl
  have changed := tableChangesAt_setDesc (s := s) hn (.live m (firstDelivery s m))
  rw [← delivery] at changed ⊢
  exact changed

theorem spendTokens_port (s : State) (p q : Port) (k : Nat) :
    (s.spendTokens p k).port q = if q = p then { s.port q with tokens := spent (s.port q) k } else s.port q := by
  rw [State.spendTokens, State.port_modifyPort]
  split
  · next hq =>
    subst hq
    unfold PortState.pacingOn spent
    by_cases h : (s.port q).config.paceInterval = 0
    · rw [h, if_neg (by decide), if_pos rfl]
    · rw [if_neg h, if_pos (decide_eq_true (by omega))]
  · rfl

/-- A delivery step leaves the configuration and the tokens. -/
theorem delivered_spent (s : State) (h : Handle) (m : Message) (q : Port) (k : Nat) :
    spent (delivered s h m q) k = spent (s.port q) k := by
  unfold delivered marked
  dsimp only
  repeat' split
  all_goals rfl

end Effects
end Sys2Proof
end

section
/-! PROOFS. Detaches: DETACH and FORCE_DETACH, the four items of the work list, and the completion (sections 8.3 and 9.4). -/

namespace Sys2Proof
namespace Detaches

open Sys2Proof.Machine Sys2Proof.Safety Sys2Proof.Effects

-- One theorem after the other: side by side their elaborations hold more threads than the sandbox has room for.
set_option Elab.async false

/-! ## DETACH (R133) -/

/-- A DETACH ends the lease that its taking has renewed. -/
theorem dropClaimOf_renewLease (s : State) (p : Port) :
    (s.renewLease p).dropClaimOf p
      = { s with
          claim := if s.holdsClaim p then none else s.claim
          leaseDue := if s.holdsClaim p then false else s.leaseDue } := by
  by_cases h : s.holdsClaim p = true
  · rw [State.dropClaimOf, State.renewLease_holdsClaim, h, if_pos rfl, State.renewLease_eq]
    rfl
  · rw [Bool.not_eq_true] at h
    rw [State.dropClaimOf, State.renewLease_holdsClaim, h, Checks.renewLease_of_not_holder h]
    rfl

theorem beginDetach_own (s : State) (p : Port) :
    s.beginDetach p p = s.setPort p { s.port p with session := .detaching p, engine := .detachInFlight p } := by
  rw [State.beginDetach, State.modifyPort_eq, State.modifyPort_eq, State.port_setPort_self, State.setPort_setPort]

theorem detachBody_of_attached {s : State} {p : Port} (hs : (s.port p).session = .attached) (args : List Byte) :
    detachBody p args s = .next ((s.dropClaimOf p).beginDetach p p) := by
  rw [detachBody, sessionCheck_eq_none.mpr (.inl hs)]

/-- Settles O25: an accepted DETACH of an ATTACHED port releases its claim and begins its detach. -/
theorem detachBegins : Obligations.DetachBegins := by
  intro p s ha hs
  have taken : exec (.detach p []) s = detachBody p [] (s.renewLease p) := issue_taken (detachBody p) ha (by decide)
  rw [taken, detachBody_of_attached (by rwa [State.renewLease_port]), dropClaimOf_renewLease, beginDetach_own]
  rfl

/-! ## FORCE_DETACH (R134) -/

theorem forceDetachBody_of_holder {s : State} {p : Port} (hs : (s.port p).session = .attached)
    (hc : s.holdsClaim p = true) {target : Byte} {q : Port} (hq : portOf target = some q) :
    forceDetachBody p [target] s
      = if q = p then refuse p .badArgument s
        else if (s.port q).session ≠ .attached then refuse p .wrongState s else .next (s.beginDetach q p) := by
  rw [forceDetachBody, sessionCheck_eq_none.mpr (.inl hs), claimCheck_eq_none.mpr hc]
  simp only [hq]
  rfl

theorem forceDetachBody_of_no_port {s : State} {p : Port} (hs : (s.port p).session = .attached)
    (hc : s.holdsClaim p = true) {target : Byte} (hq : portOf target = none) :
    forceDetachBody p [target] s = refuse p .badArgument s := by
  rw [forceDetachBody, sessionCheck_eq_none.mpr (.inl hs), claimCheck_eq_none.mpr hc]
  simp only [hq]
  rfl

theorem beginDetach_port_issuer (s : State) {p q : Port} (h : q ≠ p) :
    (s.beginDetach q p).port p = { s.port p with engine := .detachInFlight q } := by
  rw [State.beginDetach, State.port_modifyPort_self, State.port_modifyPort_ne _ _ h.symm]

theorem beginDetach_port_target (s : State) {p q : Port} (h : q ≠ p) :
    (s.beginDetach q p).port q = { s.port q with session := .detaching p } := by
  rw [State.beginDetach, State.port_modifyPort_ne _ _ h, State.port_modifyPort_self]

theorem beginDetach_port_other (s : State) {p q x : Port} (hp : x ≠ p) (hq : x ≠ q) :
    (s.beginDetach q p).port x = s.port x := by
  rw [State.beginDetach, State.port_modifyPort_ne _ _ hp, State.port_modifyPort_ne _ _ hq]

/-- Settles O26: an accepted FORCE_DETACH of the claim holder, by its target. -/
theorem forceDetachDecided : Obligations.ForceDetachDecided := by
  intro p s target ha hs hc
  have taken : exec (.forceDetach p [target]) s = forceDetachBody p [target] (s.renewLease p) :=
    issue_taken (forceDetachBody p) ha (show LengthFits 0x03#8 1 by decide)
  have attached : ((s.renewLease p).port p).session = .attached := by rwa [State.renewLease_port]
  have holder : (s.renewLease p).holdsClaim p = true := by rwa [State.renewLease_holdsClaim]
  rw [taken]
  refine ⟨fun q htarget hne => ?_, fun htarget => ?_⟩
  · subst htarget
    rw [forceDetachBody_of_holder attached holder (Encodings.portOf_portByte q), if_neg hne, State.renewLease_port]
    refine ⟨fun hq => ?_, fun hq => ?_⟩
    · rw [if_neg (not_not.mpr hq)]
      refine ⟨_, rfl, rfl, ?_, ?_, fun x hp hxq => ?_⟩
      · rw [beginDetach_port_issuer _ hne, State.renewLease_port]
      · rw [beginDetach_port_target _ hne, State.renewLease_port]
      · rw [beginDetach_port_other _ hp hxq, State.renewLease_port]
    · rw [if_pos hq, refuse_renewed]
  · rcases htarget with htarget | htarget
    · rw [forceDetachBody_of_no_port attached holder (Encodings.portOf_none htarget), refuse_renewed]
    · subst htarget
      rw [forceDetachBody_of_holder attached holder (Encodings.portOf_portByte p), if_pos rfl, refuse_renewed]

/-! ## The work list (R136 to R138) -/

theorem isDetaching_of {s : State} {p r : Port} (h : (s.port p).session = .detaching r) : s.isDetaching p = true := by
  rw [State.isDetaching, h]

theorem undelivered_eq_some {d : DescState} {m : Message} : d.undelivered? = some m ↔ d = .opened m ∨ d = .held m := by
  cases d <;> simp [DescState.undelivered?]

/-- The abandonment of an OPEN or HELD message at each port, in the table and in the free list (R51, R52, R136). -/
structure Abandoned (s t : State) (i : DescIndex) (m : Message) : Prop where
  within : t = { s with ports := t.ports, table := t.table, freeList := s.freeList ++ m.chain }
  table : TableFreesAt s t (s.handleAt i)
  port : ∀ q, t.port q
    = if q = m.source ∧ (s.desc i).state = .held m then { refunded m q (s.port q) with heldPost := none }
      else refunded m q (s.port q)

theorem abandoned_abandonMessage {s : State} {i : DescIndex} {m : Message}
    (hm : (s.desc i).state = .opened m ∨ (s.desc i).state = .held m) : Abandoned s (s.abandonMessage i) i m := by
  have freed : TableFreesAt s ((s.refund m).freeDesc i) (s.handleAt i) := by
    have h := tableFreesAt_freeDesc (names_handleAt (s.refund m) i)
    rwa [Events.handleAt_index] at h
  rcases hm with hm | hm
  · have opened : s.abandonMessage i = (s.refund m).freeDesc i := by rw [State.abandonMessage, hm]
    rw [opened]
    refine ⟨rfl, freed, fun q => ?_⟩
    rw [State.port_freeDesc, refund_port, hm, if_neg fun h => by cases h.2]
  · have held : s.abandonMessage i = ((s.refund m).freeDesc i).emptySlot m.source := by rw [State.abandonMessage, hm]
    rw [held]
    refine ⟨rfl, freed, fun q => ?_⟩
    rw [State.emptySlot, State.port_modifyPort, State.port_freeDesc, State.port_freeDesc, refund_port, refund_port]
    by_cases hq : q = m.source
    · rw [if_pos hq, if_pos ⟨hq, hm⟩, hq]
    · rw [if_neg hq, if_neg fun h => hq h.1]

theorem exec_detachAbandonment {s : State} {p : Port} {i : DescIndex} {m : Message} (hp : s.isDetaching p = true)
    (hm : (s.desc i).state = .opened m ∨ (s.desc i).state = .held m) (hs : m.source = p) :
    exec (.detachAbandonment p i) s = .next (s.abandonMessage i) := by
  change execDetachAbandonment p i s = _
  rw [execDetachAbandonment, if_pos hp, undelivered_eq_some.mpr hm]
  exact if_pos hs

/-- Settles O27: the three items of the work list that are no flush. -/
theorem detachWorkItems : Obligations.DetachWorkItems := by
  refine ⟨fun p r s i m hp hm hs => ?_, fun p r s hp => ⟨?_, ?_⟩⟩
  · obtain ⟨within, table, port⟩ := abandoned_abandonMessage hm
    refine ⟨_, exec_detachAbandonment (isDetaching_of hp) hm hs, within, table, fun q => ?_⟩
    rw [port, hs]
  · exact if_pos (isDetaching_of hp)
  · refine ⟨_, if_pos (isDetaching_of hp), rfl, fun q => ?_⟩
    rw [State.port_modifyPort]
    split
    · next hq =>
      subst hq
      rw [State.leaveWaiterSets, State.port_mapPorts]
    · rw [State.leaveWaiterSets, State.port_mapPorts]

/-- Settles O28: a flush is the removal of the head entry with outcome DISCARDED. -/
theorem flushDiscardsHead : Obligations.FlushDiscardsHead := by
  intro p r s l e rest m d hp he hn
  obtain ⟨within, table, port⟩ := removed_removeHead (p := p) (l := l) hn .discarded
  refine ⟨_, ?_, within, table, port⟩
  change execFlush p l s = _
  rw [execFlush, if_pos (isDetaching_of hp), head_of_names he hn]

/-! ## The completion (R139) -/

/-- What a detach waits for. -/
structure Done (s : State) (p r : Port) : Prop where
  messages : ∀ (i : DescIndex) (m : Message), (s.desc i).state = .opened m ∨ (s.desc i).state = .held m → m.source ≠ p
  entries : ∀ l : Lane, (s.queue p l).entries = []
  notices : (s.port p).notices = []
  marker : (s.port p).creditWait = false
  waiters : ∀ (q : Port) (l : Lane), p ∉ (s.queue q l).waiters
  engine : r = p ∨ (s.port p).engine.isExecuting = false

theorem detachReady_iff {s : State} {p r : Port} : s.detachReady p r = true ↔ Done s p r := by
  rw [State.detachReady, Bool.and_eq_true, Events.workListDone_iff, Events.noUndelivered_iff, Bool.or_eq_true,
    decide_eq_true_iff, Bool.not_eq_true']
  constructor
  · rintro ⟨⟨hm, ⟨hu, hr, hn, hc⟩, hw⟩, he⟩
    refine ⟨fun i m hi => hm i m (undelivered_eq_some.mpr hi), fun l => ?_, hn, hc, hw, he⟩
    cases l
    · exact hu
    · exact hr
  · rintro ⟨hm, hq, hn, hc, hw, he⟩
    exact ⟨⟨fun i m hi => hm i m (undelivered_eq_some.mp hi), ⟨hq .urgent, hq .routine, hn, hc⟩, hw⟩, he⟩

/-- The hub when a detach completes, its answer apart. -/
def completed (s : State) (p r : Port) : State :=
  let offline := (s.modifyPort p fun x => { x with session := .offline }).announcePeerChange p
  if r = p then offline else offline.raiseOn p .detached

theorem exec_detachCompletion {s : State} {p r : Port} (h : (s.port p).session = .detaching r) :
    exec (.detachCompletion p) s
      = if s.detachReady p r then .next ((completed s p r).answer r .ok []) else .next s := by
  change execDetachCompletion p s = _
  rw [execDetachCompletion, h]
  rfl

theorem completed_port (s : State) (p r q : Port) :
    (completed s p r).port q
      = raisedIf (decide (q = p ∧ r ≠ p)) .detached
          (if q = p then { s.port q with session := .offline }
          else raisedIf (decide ((s.port q).session = .attached)) .peerChange (s.port q)) := by
  have offline : ((s.modifyPort p fun x => { x with session := .offline }).announcePeerChange p).port q
      = if q = p then { s.port q with session := .offline }
        else raisedIf (decide ((s.port q).session = .attached)) .peerChange (s.port q) := by
    rw [State.announcePeerChange, State.port_raiseWhere]
    by_cases hq : q = p
    · subst hq
      simp
    · simp [hq, State.port_modifyPort_ne, raisedIf]
  rw [← offline, completed]
  by_cases hr : r = p
  · simp [hr, raisedIf]
  · simp only [hr, if_false, State.raiseOn, State.port_modifyPort]
    by_cases hq : q = p
    · subst hq
      simp [hr, raisedIf]
    · simp [hq, raisedIf]

theorem completed_onlyPorts (s : State) (p r : Port) : OnlyPorts s ((completed s p r).answer r .ok []) := by
  unfold completed
  dsimp only
  split <;> rfl

/-- Settles O29: the completion tests what a detach waits for. -/
theorem detachCompletes : Obligations.DetachCompletes := by
  intro p r s hp
  rw [exec_detachCompletion hp]
  refine ⟨fun hm hq hn hc hw he => ?_, fun hnot => ?_⟩
  · rw [if_pos (detachReady_iff.mpr ⟨hm, hq, hn, hc, hw, he⟩)]
    refine ⟨_, rfl, completed_onlyPorts s p r, fun q => ?_⟩
    rw [State.answer_port]
    split
    · next hqr =>
      subst hqr
      rw [completed_port]
      rfl
    · rw [completed_port]
  · refine if_neg fun hready => ?_
    obtain ⟨hm, hq, hn, hc, hw, he⟩ := detachReady_iff.mp hready
    rcases hnot with ⟨l, hl⟩ | hl | hl | ⟨q, l, hl⟩ | ⟨hr, hl⟩ | ⟨i, m, hi, hl⟩
    · exact hl (hq l)
    · exact hl hn
    · rw [hc] at hl
      cases hl
    · exact hw q l hl
    · rw [he.resolve_left hr] at hl
      cases hl
    · exact hm i m hi hl

end Detaches
end Sys2Proof
end

section
/-! PROOFS. Composing messages: the arguments of OPEN, OPEN taken and refused, the handle validation of the source-side
commands, and ABANDON (chapter 3). -/

namespace Sys2Proof
namespace Composing

open Sys2Proof.Machine Sys2Proof.Safety Sys2Proof.Effects

-- One theorem after the other: side by side their elaborations hold more threads than the sandbox has room for.
set_option Elab.async false

/-- A lease renewal is a change of the claim alone. -/
theorem exists_renewLease (s : State) (p : Port) : ∃ c, s.renewLease p = { s with claim := c } :=
  ⟨_, State.renewLease_eq s p⟩

/-! ## Two-byte fields -/

theorem word16_toNat (hi lo : Byte) : (word16 hi lo).toNat = hi.toNat * 2 ^ 8 + lo.toNat := by
  have hlo := lo.isLt
  simp only [word16, BitVec.toNat_append]
  rw [← Nat.shiftLeft_add_eq_or_of_lt hlo, Nat.shiftLeft_eq]

theorem extract16_byte (x : BitVec 16) (k : Nat) : (x.extractLsb' k 8).toNat = x.toNat / 2 ^ k % 2 ^ 8 := by
  rw [BitVec.extractLsb'_toNat, Nat.shiftRight_eq_div_pow]

theorem word16_bytes (x : BitVec 16) : word16 (x.extractLsb' 8 8) (x.extractLsb' 0 8) = x := by
  have := x.isLt
  apply BitVec.eq_of_toNat_eq
  simp only [word16_toNat, extract16_byte]
  omega

theorem be16_word16 (hi lo : Byte) : be16 (word16 hi lo) = [hi, lo] := by
  have hhi := hi.isLt
  have hlo := lo.isLt
  have h1 : (word16 hi lo).extractLsb' 8 8 = hi := by
    apply BitVec.eq_of_toNat_eq
    rw [extract16_byte, word16_toNat]
    omega
  have h0 : (word16 hi lo).extractLsb' 0 8 = lo := by
    apply BitVec.eq_of_toNat_eq
    rw [extract16_byte, word16_toNat]
    omega
  rw [be16, h1, h0]

theorem be16_eq (x : BitVec 16) : be16 x = [x.extractLsb' 8 8, x.extractLsb' 0 8] := rfl

/-! ## The arguments of OPEN (R39) -/

/-- A set's byte names its members in ascending order. -/
theorem setOf_setByte (ds : List Port) : Machine.setOf (setByte ds) = some (Port.all.filter fun q => decide (q ∈ ds)) := by
  simp only [setByte, Port.all, List.filter_cons, List.filter_nil]
  rcases decide (Port.p0 ∈ ds) with _ | _ <;> rcases decide (Port.p1 ∈ ds) with _ | _ <;>
    rcases decide (Port.p2 ∈ ds) with _ | _ <;> rcases decide (Port.p3 ∈ ds) with _ | _ <;> rfl

/-- A byte that names a set is that set's byte. -/
theorem setByte_of_setOf {b : Byte} {ds : List Port} (h : Machine.setOf b = some ds) :
    b = setByte ds ∧ ds = Port.all.filter fun q => decide (q ∈ ds) := by
  unfold Machine.setOf at h
  split at h
  · next hlt =>
    cases h
    have all : ∀ k < 16, BitVec.ofNat 8 k = setByte (Port.all.filter fun p => (BitVec.ofNat 8 k).getLsbD p.toNat)
        ∧ (Port.all.filter fun p => (BitVec.ofNat 8 k).getLsbD p.toNat)
          = Port.all.filter fun q => decide (q ∈ Port.all.filter fun p => (BitVec.ofNat 8 k).getLsbD p.toNat) := by
      decide
    have hb := all b.toNat hlt
    rwa [BitVec.ofNat_toNat, BitVec.setWidth_eq] at hb
  · cases h

theorem laneByte_of_laneOf {b : Byte} {l : Lane} (h : laneOf b = some l) : b = laneByte l := by
  unfold laneOf at h
  split_ifs at h with h0 h1
  · cases h
    exact h0
  · cases h
    exact h1

/-- A mode in one byte (11.7). -/
def modeByte (m : Mode) : Byte := if m = .all then 0#8 else 1#8

theorem modeOf_modeByte (m : Mode) : modeOf (modeByte m) = some m := by cases m <;> rfl

theorem modeByte_of_modeOf {b : Byte} {m : Mode} (h : modeOf b = some m) : b = modeByte m := by
  unfold modeOf at h
  split_ifs at h with h0 h1
  · cases h
    exact h0
  · cases h
    exact h1

/-- The seven bytes of OPEN's arguments. -/
theorem openBytes_eq (l : Lane) (length : Nat) (ds : List Port) (mode : Mode) (tag : BitVec 16) :
    openBytes l length ds mode tag
      = [laneByte l, (BitVec.ofNat 16 length).extractLsb' 8 8, (BitVec.ofNat 16 length).extractLsb' 0 8, setByte ds,
          modeByte mode, tag.extractLsb' 8 8, tag.extractLsb' 0 8] := rfl

/-- Arguments that OPEN accepts, read from their bytes. -/
theorem openArgs_of_valid {p : Port} {length : Nat} {ds : List Port} (h1 : 1 ≤ length) (h256 : length ≤ 256)
    (hds : ValidDestinations p ds) (l : Lane) (mode : Mode) (tag : BitVec 16) :
    openArgs p (laneByte l) ((BitVec.ofNat 16 length).extractLsb' 8 8) ((BitVec.ofNat 16 length).extractLsb' 0 8)
        (setByte ds) (modeByte mode) (tag.extractLsb' 8 8) (tag.extractLsb' 0 8)
      = some { lane := l, length := length, destinations := ds, mode := mode, tag := tag } := by
  obtain ⟨hne, hp, hall⟩ := hds
  have hlen : (BitVec.ofNat 16 length).toNat = length := by
    rw [BitVec.toNat_ofNat]
    omega
  rw [openArgs, Encodings.laneOf_laneByte, setOf_setByte, ← hall, modeOf_modeByte]
  simp only [word16_bytes, hlen]
  exact if_pos ⟨h1, h256, hne, hp⟩

/-- Bytes that OPEN accepts are the bytes of accepted arguments. -/
theorem valid_of_openArgs {p : Port} {b0 b1 b2 b3 b4 b5 b6 : Byte} {a : OpenArgs}
    (h : openArgs p b0 b1 b2 b3 b4 b5 b6 = some a) :
    1 ≤ a.length ∧ a.length ≤ 256 ∧ ValidDestinations p a.destinations
      ∧ [b0, b1, b2, b3, b4, b5, b6] = openBytes a.lane a.length a.destinations a.mode a.tag := by
  unfold openArgs at h
  split at h
  · next l ds m hl hds hm =>
    simp only at h
    split at h
    · next hvalid =>
      obtain ⟨h1, h256, hne, hp⟩ := hvalid
      cases h
      obtain ⟨hbyte, hall⟩ := setByte_of_setOf hds
      refine ⟨h1, h256, ⟨hne, hp, hall⟩, ?_⟩
      have length := be16_word16 b1 b2
      have tag := be16_word16 b5 b6
      rw [be16_eq, List.cons.injEq, List.cons.injEq] at length tag
      obtain ⟨hl1, hl0, -⟩ := length
      obtain ⟨ht1, ht0, -⟩ := tag
      rw [openBytes_eq, BitVec.ofNat_toNat, BitVec.setWidth_eq, hl1, hl0, ht1, ht0, laneByte_of_laneOf hl, hbyte,
        modeByte_of_modeOf hm]
    · cases h
  · cases h

/-! ## OPEN taken (R41) -/

theorem lowestFree_eq {s : State} {i : DescIndex} (hi : (s.desc i).state = .free)
    (hlow : ∀ j : DescIndex, j < i → (s.desc j).state ≠ .free) : s.lowestFree = some i := by
  cases h : s.lowestFree with
  | none => exact absurd hi (State.lowestFree_eq_none.mp h i)
  | some k =>
    obtain ⟨hk, hbelow⟩ := State.lowestFree_eq_some h
    rcases lt_trichotomy k i with hlt | heq | hgt
    · exact absurd hk (hlow k hlt)
    · rw [heq]
    · exact absurd hi (hbelow i hgt)

/-- The cells of a chain filled with zeros (R19). -/
theorem lookup_zeroFills (cells : List CellIndex) (m : Pool) (a : Nat) :
    (cells.foldl Pool.zeroFill m).lookup a
      = if ∃ c ∈ cells, a / 8 = c.val then StoredWord.fresh 0#32 else m.lookup a := by
  induction cells generalizing m with
  | nil => simp
  | cons c rest ih =>
    rw [List.foldl_cons, ih, Pool.lookup_zeroFill]
    by_cases hrest : ∃ x ∈ rest, a / 8 = x.val
    · obtain ⟨x, hx, ha⟩ := hrest
      rw [if_pos ⟨x, hx, ha⟩, if_pos ⟨x, List.mem_cons_of_mem _ hx, ha⟩]
    · rw [if_neg hrest]
      by_cases hc : a / 8 = c.val
      · rw [if_pos hc, if_pos ⟨c, List.mem_cons_self, hc⟩]
        rfl
      · rw [if_neg hc, if_neg]
        rintro ⟨x, hx, ha⟩
        rcases List.mem_cons.mp hx with rfl | hx
        · exact hc ha
        · exact hrest ⟨x, hx, ha⟩

/-- A descriptor's own handle names what it becomes. -/
theorem tableChangesAt_handleAt (s : State) (i : DescIndex) (d : DescState) :
    TableChangesAt s (s.setDesc i { generation := (s.desc i).generation, state := d }) (s.handleAt i) d := by
  have changed := tableChangesAt_setDesc (names_handleAt s i) d
  rwa [Events.handleAt_index] at changed

/-- An OPEN in an attached session, by what it finds. -/
theorem openBody_valid {p : Port} {s : State} {b0 b1 b2 b3 b4 b5 b6 : Byte} {a : OpenArgs}
    (hs : (s.port p).session = .attached) (ha : openArgs p b0 b1 b2 b3 b4 b5 b6 = some a) :
    ((s.port p).config.outstandingCap ≤ s.outstanding p ∨ s.lowestFree = none →
        openBody p [b0, b1, b2, b3, b4, b5, b6] s = refuse p .noDescriptor s)
      ∧ ∀ i, s.outstanding p < (s.port p).config.outstandingCap → s.lowestFree = some i →
        (s.grant p a.lane (cellsFor a.length) = none →
          openBody p [b0, b1, b2, b3, b4, b5, b6] s = refuse p .noCredit (s.setMarker p))
        ∧ ∀ c, s.grant p a.lane (cellsFor a.length) = some c → cellsFor a.length ≤ s.freeList.length →
          openBody p [b0, b1, b2, b3, b4, b5, b6] s
            = .next ((s.allocate p a i c).answer p .ok (openPayload (s.handleAt i) (cellsFor a.length) c)) := by
  rw [openBody, sessionCheck_eq_none.mpr (.inl hs)]
  simp only [ha]
  refine ⟨fun h => ?_, fun i hcap hi => ⟨fun hg => ?_, fun c hg hlen => ?_⟩⟩
  · split
    · rfl
    · next hcap => rw [h.resolve_left hcap]
  · rw [if_neg (Nat.not_le.mpr hcap), hi]
    simp only [hg]
  · rw [if_neg (Nat.not_le.mpr hcap), hi]
    simp only [hg]
    exact if_neg (Nat.not_lt.mpr hlen)

theorem exec_open_taken {p : Port} {s : State} {args : List Byte} (ha : Accepted s p 0x10#8 args)
    (hlen : args.length = 7) : exec (.openMessage p args) s = openBody p args (s.renewLease p) :=
  issue_taken (openBody p) ha (by rw [hlen]; decide)

/-- Settles O30: a granted OPEN allocates the lowest FREE descriptor and the first cells of the free list. -/
theorem openTaken : Obligations.OpenTaken := by
  intro p s l length ds mode tag i k r sh h1 h256 hds ha hs hcap hi hlow hk hr hsh hshared hceiling hfree
  rw [exec_open_taken ha rfl]
  obtain ⟨claim, hclaim⟩ := exists_renewLease s p
  rw [hclaim, openBytes_eq]
  have grant : State.grant { s with claim := claim } p l k = some { reserved := r, shared := sh } :=
    State.grant_eq_some.mpr ⟨hr, hsh, hshared, hceiling⟩
  have taken := openBody_valid (s := { s with claim := claim }) hs (openArgs_of_valid h1 h256 hds l mode tag)
  subst hk
  rw [(taken.2 i hcap (lowestFree_eq (s := { s with claim := claim }) hi hlow)).2 _ grant hfree]
  refine ⟨_, rfl, rfl, fun q hq => ?_, ?_, tableChangesAt_handleAt s i _, fun a => lookup_zeroFills _ _ a⟩
  · rw [State.answer_port, if_neg hq, Events.allocate_port, if_neg hq]
    rfl
  · rw [State.answer_port, if_pos rfl, Events.allocate_port, if_pos rfl]
    rfl

/-- Settles O31: an OPEN that is not granted, in the order of its checks. -/
theorem openRefused : Obligations.OpenRefused := by
  intro p s hs
  have attached : ((s.renewLease p).port p).session = .attached := by rwa [State.renewLease_port]
  refine ⟨fun args hlen ha hnone => ?_, fun l length ds mode tag h1 h256 hds ha => ⟨fun hnot => ?_, ?_⟩⟩
  · obtain ⟨b0, b1, b2, b3, b4, b5, b6, rfl⟩ := Checks.length_eq_seven (as := args) (by omega)
    have bad : openArgs p b0 b1 b2 b3 b4 b5 b6 = none := by
      refine Option.eq_none_iff_forall_ne_some.mpr fun a hargs => ?_
      obtain ⟨h1, h256, hds, hbytes⟩ := valid_of_openArgs hargs
      exact hnone _ _ _ _ _ h1 h256 hds hbytes
    rw [exec_open_taken ha rfl, openBody, sessionCheck_eq_none.mpr (.inl attached)]
    simp only [bad]
    exact refuse_renewed p _ s
  · rw [exec_open_taken ha rfl, openBytes_eq, ← refuse_renewed]
    obtain ⟨claim, hclaim⟩ := exists_renewLease s p
    rw [hclaim]
    refine (openBody_valid (s := { s with claim := claim }) hs (openArgs_of_valid h1 h256 hds l mode tag)).1 ?_
    exact hnot.imp id fun h => State.lowestFree_eq_none.mpr h
  · intro hcap hsome k r sh hk hr hsh hcredit
    obtain ⟨claim, hclaim⟩ := exists_renewLease s p
    rw [exec_open_taken ha rfl, openBytes_eq, hclaim]
    obtain ⟨i, hi⟩ := hsome
    obtain ⟨j, hj⟩ : ∃ j, State.lowestFree { s with claim := claim } = some j := by
      refine Option.ne_none_iff_exists'.mp fun hnone => ?_
      exact State.lowestFree_eq_none.mp hnone i hi
    have ungranted : State.grant { s with claim := claim } p l (cellsFor length) = none := by
      refine Option.eq_none_iff_forall_ne_some.mpr fun c hc => ?_
      obtain ⟨hres, hshared, hcap, hceiling⟩ := State.grant_eq_some.mp hc
      have hreserved : c.reserved = r := by rw [hres, hr, hk]; rfl
      have hborrow : c.shared = sh := by rw [hshared, hsh, hreserved, hk]; rfl
      rw [hborrow] at hcap hceiling
      rcases hcredit with h | h
      · exact absurd h (Nat.not_lt.mpr hcap)
      · exact absurd h (Nat.not_lt.mpr hceiling)
    rw [((openBody_valid (s := { s with claim := claim }) hs (openArgs_of_valid h1 h256 hds l mode tag)).2 j hcap hj).1
      ungranted, refuse, State.answer, State.setMarker, State.modifyPort_eq, State.modifyPort_eq, State.port_setPort_self,
      State.setPort_setPort]
    rfl

/-! ## Handle validation (R7) -/

theorem sourceSide_stale {s : State} {h : Handle}
    (hst : (s.desc (handleIndex h)).state = .free ∨ (s.desc (handleIndex h)).generation ≠ handleGeneration h) (p : Port) :
    s.sourceSide p h = .error .staleHandle := by
  unfold State.sourceSide
  dsimp only
  split
  · rfl
  · next m hm =>
    rw [if_pos]
    refine hst.resolve_left fun hfree => ?_
    rw [hfree] at hm
    cases hm

theorem sourceSide_notOwner {s : State} {p : Port} {h : Handle} {d : DescState} {m : Message} (hn : Names s h d)
    (hm : d.message? = some m) (hp : m.source ≠ p) : s.sourceSide p h = .error .notOwner := by
  obtain ⟨hstate, hgeneration⟩ := hn
  unfold State.sourceSide
  simp only [hstate, hm]
  rw [if_neg (not_not.mpr hgeneration), if_pos hp]

theorem sourceSide_own {s : State} {p : Port} {h : Handle} {d : DescState} {m : Message} (hn : Names s h d)
    (hm : d.message? = some m) (hp : m.source = p) : s.sourceSide p h = .ok d :=
  State.sourceSide_eq_ok.mpr ⟨hn.1, hn.2, m, hm, hp⟩

/-- The messages that a source-side command does not accept: LIVE ones, and HELD ones but for ABANDON. -/
def Unaccepted (c : Instr) (abandon : Instr) (d : DescState) : Prop :=
  (∃ m x, d = .live m x) ∨ (∃ m, d = .held m) ∧ c ≠ abandon

section Bodies

variable {p : Port} {s : State} {h : Handle} {off : Byte} {data : List Byte}

/-- WRITE in an attached session goes on from its range and handle checks. -/
theorem writeBody_eq (hs : (s.port p).session = .attached) (off : Byte) (data : List Byte) :
    (256 < off.toNat + data.length → writeBody p (be16 h ++ off :: data) s = refuse p .range s)
      ∧ (off.toNat + data.length ≤ 256 →
        (∀ r, s.sourceSide p h = .error r → writeBody p (be16 h ++ off :: data) s = refuse p r s)
        ∧ (∀ d, s.sourceSide p h = .ok d → (∀ m, d ≠ .opened m) →
            writeBody p (be16 h ++ off :: data) s = refuse p .wrongState s)
        ∧ ∀ m, s.sourceSide p h = .ok (.opened m) →
          (m.length < off.toNat + data.length → writeBody p (be16 h ++ off :: data) s = refuse p .range s)
          ∧ ∀ l, off.toNat + data.length ≤ m.length →
            wordAddresses m.chain (firstWord off.toNat) (wordCount off.toNat data.length) = some l →
            writeBody p (be16 h ++ off :: data) s
              = .next (({ s with pool := writeWords off.toNat data (firstWord off.toNat) l s.pool }).answer p .ok [])) := by
  rw [be16_eq, List.cons_append, List.cons_append, List.nil_append, writeBody, sessionCheck_eq_none.mpr (.inl hs),
    word16_bytes]
  refine ⟨fun hrange => if_pos hrange, fun hrange =>
    ⟨fun r hr => ?_, fun d hd hopen => ?_, fun m hm => ⟨fun hlen => ?_, fun l hlen hl => ?_⟩⟩⟩
  · simp only [if_neg (Nat.not_lt.mpr hrange), hr]
  · simp only [if_neg (Nat.not_lt.mpr hrange), hd]
  · simp only [if_neg (Nat.not_lt.mpr hrange), hm, if_pos hlen]
  · simp only [if_neg (Nat.not_lt.mpr hrange), hm, if_neg (Nat.not_lt.mpr hlen), hl]

/-- POST in an attached session goes on from its handle checks. -/
theorem postBody_eq (hs : (s.port p).session = .attached) (h : Handle) :
    (∀ r, s.sourceSide p h = .error r → postBody p (be16 h) s = refuse p r s)
      ∧ (∀ d, s.sourceSide p h = .ok d → (∀ m, d ≠ .opened m) → postBody p (be16 h) s = refuse p .wrongState s)
      ∧ ∀ m, s.sourceSide p h = .ok (.opened m) → postBody p (be16 h) s = postDecision p (handleIndex h) m s := by
  rw [be16_eq, postBody, sessionCheck_eq_none.mpr (.inl hs), word16_bytes]
  refine ⟨fun r hr => ?_, fun d hd hopen => ?_, fun m hm => ?_⟩
  · simp only [hr]
  · simp only [hd]
  · simp only [hm]

/-- ABANDON in an attached session goes on from its handle checks. -/
theorem abandonBody_eq (hs : (s.port p).session = .attached) (h : Handle) :
    (∀ r, s.sourceSide p h = .error r → abandonBody p (be16 h) s = refuse p r s)
      ∧ (∀ m x, s.sourceSide p h = .ok (.live m x) → abandonBody p (be16 h) s = refuse p .wrongState s)
      ∧ ∀ m, s.sourceSide p h = .ok (.opened m) ∨ s.sourceSide p h = .ok (.held m) →
        abandonBody p (be16 h) s = .next ((s.abandonMessage (handleIndex h)).answer p .ok []) := by
  rw [be16_eq, abandonBody, sessionCheck_eq_none.mpr (.inl hs), word16_bytes]
  refine ⟨fun r hr => ?_, fun m x hm => ?_, fun m hm => ?_⟩
  · simp only [hr]
  · simp only [hm]
  · rcases hm with hm | hm
    · simp only [hm]
    · simp only [hm]

end Bodies

/-- What the handle validation of a row refuses, from what its command refuses. -/
theorem refusals_of_validation {c abandon : Instr} {p : Port} {s : State} {h : Handle}
    (herror : ∀ r, (s.renewLease p).sourceSide p h = .error r → exec c s = refuse p r (s.renewLease p))
    (hstate : ∀ d, (s.renewLease p).sourceSide p h = .ok d → Unaccepted c abandon d →
      exec c s = refuse p .wrongState (s.renewLease p)) :
    ((s.desc (handleIndex h)).state = .free ∨ (s.desc (handleIndex h)).generation ≠ handleGeneration h →
        exec c s = .next (answered s p .staleHandle []))
      ∧ ∀ (d : DescState) (m : Message), Names s h d → d.message? = some m →
        (m.source ≠ p → exec c s = .next (answered s p .notOwner []))
        ∧ (m.source = p → ((∃ x, d = .live m x) ∨ (d = .held m ∧ c ≠ abandon)) →
            exec c s = .next (answered s p .wrongState [])) := by
  have names : ∀ {d}, Names s h d → Names (s.renewLease p) h d := fun hn => by
    rw [Names, State.renewLease_desc]
    exact hn
  refine ⟨fun hst => ?_, fun d m hn hm => ⟨fun hp => ?_, fun hp hd => ?_⟩⟩
  · rw [herror _ (sourceSide_stale (by rwa [State.renewLease_desc]) p), refuse_renewed]
  · rw [herror _ (sourceSide_notOwner (names hn) hm hp), refuse_renewed]
  · rw [hstate d (sourceSide_own (names hn) hm hp) (hd.imp (fun ⟨x, e⟩ => ⟨m, x, e⟩) fun ⟨e, ha⟩ => ⟨⟨m, e⟩, ha⟩),
      refuse_renewed]

theorem Unaccepted.not_opened {c abandon : Instr} {d : DescState} (h : Unaccepted c abandon d) (m : Message) :
    d ≠ .opened m := by
  rintro rfl
  rcases h with ⟨n, x, e⟩ | ⟨⟨n, e⟩, -⟩ <;> cases e

theorem exec_write_taken {p : Port} {s : State} {h : Handle} {off : Byte} {data : List Byte} (hmin : 1 ≤ data.length)
    (hmax : data.length ≤ 64) (ha : Accepted s p 0x11#8 (be16 h ++ off :: data)) :
    exec (.write p (be16 h ++ off :: data)) s = writeBody p (be16 h ++ off :: data) (s.renewLease p) := by
  refine issue_taken (writeBody p) ha ⟨(0x11#8, 4, 67), by decide, rfl, ?_⟩
  simp only [be16_eq, List.length_append, List.length_cons, List.length_nil]
  omega

theorem exec_post_taken {p : Port} {s : State} {h : Handle} (ha : Accepted s p 0x13#8 (be16 h)) :
    exec (.post p (be16 h)) s = postBody p (be16 h) (s.renewLease p) :=
  issue_taken (postBody p) ha (show LengthFits 0x13#8 2 by decide)

theorem exec_abandon_taken {p : Port} {s : State} {h : Handle} (ha : Accepted s p 0x12#8 (be16 h)) :
    exec (.abandon p (be16 h)) s = abandonBody p (be16 h) (s.renewLease p) :=
  issue_taken (abandonBody p) ha (show LengthFits 0x12#8 2 by decide)

/-- Settles O33: the three source-side commands, by their range and handle checks. -/
theorem sourceHandleRefusals : Obligations.SourceHandleRefusals := by
  intro p s h off data c args hc hs
  have attached : ((s.renewLease p).port p).session = .attached := by rwa [State.renewLease_port]
  rcases hc with ⟨rfl, rfl, hmin, hmax, ha⟩ | ⟨rfl, rfl, ha⟩ | ⟨rfl, rfl, ha⟩
  · have taken := exec_write_taken hmin hmax ha
    obtain ⟨far, near⟩ := writeBody_eq (h := h) attached off data
    refine ⟨fun _ hrange => by rw [taken, far hrange, refuse_renewed], fun hrange => ?_⟩
    obtain ⟨herror, hstate, hopened⟩ := near (hrange rfl)
    obtain ⟨stale, owned⟩ := refusals_of_validation (c := .write p (be16 h ++ off :: data))
      (abandon := .abandon p (be16 h ++ off :: data)) (fun r hr => taken.trans (herror r hr))
      fun d hd hun => taken.trans (hstate d hd hun.not_opened)
    refine ⟨stale, fun d m hn hm => ⟨(owned d m hn hm).1, (owned d m hn hm).2, fun hp hd _ hlen => ?_⟩⟩
    subst hd
    have own : (s.renewLease p).sourceSide p h = .ok (.opened m) :=
      sourceSide_own (by rw [Names, State.renewLease_desc]; exact hn) hm hp
    rw [taken, (hopened m own).1 hlen, refuse_renewed]
  · have taken := exec_post_taken ha
    obtain ⟨herror, hstate, -⟩ := postBody_eq attached h
    obtain ⟨stale, owned⟩ := refusals_of_validation (c := .post p (be16 h)) (abandon := .abandon p (be16 h))
      (fun r hr => taken.trans (herror r hr)) fun d hd hun => taken.trans (hstate d hd hun.not_opened)
    exact ⟨fun e => (by cases e), fun _ => ⟨stale, fun d m hn hm => ⟨(owned d m hn hm).1, (owned d m hn hm).2,
      fun _ _ e => by cases e⟩⟩⟩
  · have taken := exec_abandon_taken ha
    obtain ⟨herror, hlive, -⟩ := abandonBody_eq attached h
    obtain ⟨stale, owned⟩ := refusals_of_validation (c := .abandon p (be16 h)) (abandon := .abandon p (be16 h))
      (fun r hr => taken.trans (herror r hr)) fun d hd hun => by
        rcases hun with ⟨m, x, rfl⟩ | ⟨-, hne⟩
        · exact taken.trans (hlive m x hd)
        · exact absurd rfl hne
    exact ⟨fun e => (by cases e), fun _ => ⟨stale, fun d m hn hm => ⟨(owned d m hn hm).1, (owned d m hn hm).2,
      fun _ _ e => by cases e⟩⟩⟩

/-! ## ABANDON (R51) -/

/-- Settles O34: an ABANDON of the port's own message is its abandonment and an OK. -/
theorem abandonRefunds : Obligations.AbandonRefunds := by
  intro p s h m ha hs hn hp
  have hd : (s.desc (handleIndex h)).state = .opened m ∨ (s.desc (handleIndex h)).state = .held m :=
    hn.imp And.left And.left
  have handle : s.handleAt (handleIndex h) = h := by
    rcases hn with hn | hn
    · exact handleAt_of_names hn
    · exact handleAt_of_names hn
  rw [exec_abandon_taken ha]
  obtain ⟨claim, hclaim⟩ := exists_renewLease s p
  rw [hclaim]
  have own : State.sourceSide { s with claim := claim } p h = .ok (.opened m)
      ∨ State.sourceSide { s with claim := claim } p h = .ok (.held m) :=
    hn.imp (fun hn => sourceSide_own (s := { s with claim := claim }) hn rfl hp)
      fun hn => sourceSide_own (s := { s with claim := claim }) hn rfl hp
  obtain ⟨-, -, taken⟩ := abandonBody_eq (s := { s with claim := claim }) hs h
  obtain ⟨within, table, port⟩ := Detaches.abandoned_abandonMessage (s := { s with claim := claim }) hd
  rw [taken m own]
  refine ⟨_, rfl, ?_, ?_, fun q => ?_⟩
  · rw [within]
    rfl
  · rw [show State.handleAt { s with claim := claim } (handleIndex h) = h from handle] at table
    exact table
  · rw [State.answer_port]
    split
    · next hq =>
      subst hq
      rw [port]
      by_cases hheld : (s.desc (handleIndex h)).state = .held m
      · rw [if_pos ⟨hp.symm, hheld⟩]
        exact congrArg (holding · .ok []) (if_pos hheld).symm
      · rw [if_neg fun e => hheld e.2]
        exact congrArg (holding · .ok []) (if_neg hheld).symm
    · next hq =>
      rw [port, if_neg fun e => hq (e.1.trans hp)]
      rfl

end Composing
end Sys2Proof
end

section
/-! PROOFS. Posting and pacing: POST delivered, refused and held, the refill of the token bucket, and the release of a held
post (chapter 4). -/

namespace Sys2Proof
namespace Posting

open Sys2Proof.Machine Sys2Proof.Safety Sys2Proof.Effects Sys2Proof.Composing

-- One theorem after the other: side by side their elaborations hold more threads than the sandbox has room for.
set_option Elab.async false

/-! ## The pacing decision (R56) -/

theorem paced_iff (x : PortState) (k : Nat) : x.pacingOn = false ∨ k ≤ x.tokens ↔ PacedThrough x k := by
  refine or_congr_left ?_
  unfold PortState.pacingOn
  rw [decide_eq_false_iff_not]
  omega

section Post

variable {p : Port} {s : State} {h : Handle} {m : Message} {claim : Option Claim}

/-- A POST of the port's own OPEN message comes to its pacing decision, the lease renewed. -/
theorem exec_post_decided (ha : Accepted s p 0x13#8 (be16 h)) (hs : (s.port p).session = .attached)
    (hn : Names s h (.opened m)) (hp : m.source = p) (hclaim : s.renewLease p = { s with claim := claim }) :
    exec (.post p (be16 h)) s = postDecision p (handleIndex h) m { s with claim := claim } := by
  rw [exec_post_taken ha, hclaim]
  exact (postBody_eq (s := { s with claim := claim }) hs h).2.2 m
    (sourceSide_own (s := { s with claim := claim }) hn rfl hp)

theorem postDecision_through {i : DescIndex} (hk : PacedThrough (s.port p) m.chain.length) :
    postDecision p i m s = postNow p i m s :=
  if_pos ((paced_iff _ _).mpr hk)

theorem postDecision_short {i : DescIndex} (hk : ¬PacedThrough (s.port p) m.chain.length) :
    postDecision p i m s
      = if (s.port p).heldPost = none then .next ((s.holdPost p i m).answer p .held []) else refuse p .paced s :=
  if_neg fun h => hk ((paced_iff _ _).mp h)

theorem postNow_delivers {i : DescIndex} (hw : WouldDeliver s m) :
    postNow p i m s
      = .next (((s.deliverOk i m (s.judge m)).spendTokens p m.chain.length).answer p .ok
          (be16 (s.port p).sequence
            ++ [setByte (wouldAccept s m), setByte (wouldBeOffline s m), setByte (wouldBeFull s m)])) := by
  rw [postNow, if_pos ((succeeds_iff s m).mpr hw), postPayload, judge_eq]
  rfl

theorem postNow_fails {i : DescIndex} (hw : ¬WouldDeliver s m) :
    postNow p i m s
      = .next ((s.deliverFail m (s.judge m)).answer p (failure s m).result
          [setByte (wouldBeOffline s m), setByte (wouldBeFull s m)]) := by
  rw [postNow, if_neg fun h => hw ((succeeds_iff s m).mp h), reason_eq, refusalPayload, judge_eq]

end Post

/-- A successful delivery step with its tokens, at each port (R57, R60). -/
theorem deliverOk_spendTokens_port (s : State) (i : DescIndex) (m : Message) (p q : Port) (k : Nat) :
    ((s.deliverOk i m (s.judge m)).spendTokens p k).port q
      = if q = p then { delivered s (s.handleAt i) m q with tokens := spent (s.port q) k }
        else delivered s (s.handleAt i) m q := by
  rw [spendTokens_port, deliverOk_port, delivered_spent]

/-- Settles O35: the delivery step, the tokens and the answer, port by port. -/
theorem postDelivers : Obligations.PostDelivers := by
  intro p s h m ha hs hn hp hk hw
  obtain ⟨claim, hclaim⟩ := exists_renewLease s p
  rw [exec_post_decided ha hs hn hp hclaim, hclaim, postDecision_through (s := { s with claim := claim }) hk,
    postNow_delivers (s := { s with claim := claim }) hw]
  refine ⟨_, rfl, rfl, deliverOk_tableChangesAt (s := { s with claim := claim }) hn m, fun q => ?_⟩
  rw [State.answer_port, deliverOk_spendTokens_port, deliverOk_spendTokens_port,
    show State.handleAt { s with claim := claim } (handleIndex h) = h from handleAt_of_names hn]
  by_cases hq : q = p
  · subst hq
    simp only [if_true]
    rfl
  · simp only [if_neg hq]
    rfl

/-- Settles O36: the failed delivery step, the held post and the PACED refusal. -/
theorem postNotDelivered : Obligations.PostNotDelivered := by
  refine ⟨fun p s h m ha hs hn hp hk hw => ?_, fun p s h m ha hs hn hp hk => ?_⟩
  · obtain ⟨claim, hclaim⟩ := exists_renewLease s p
    rw [exec_post_decided ha hs hn hp hclaim, hclaim, postDecision_through (s := { s with claim := claim }) hk,
      postNow_fails (s := { s with claim := claim }) hw]
    refine ⟨_, rfl, rfl, fun q => ?_⟩
    rw [State.answer_port, deliverFail_port _ _ m p fun _ => rfl, deliverFail_port _ _ m q fun _ => rfl]
    by_cases hq : q = p
    · subst hq
      simp only [if_true]
      rfl
    · simp only [if_neg hq]
      rfl
  · obtain ⟨claim, hclaim⟩ := exists_renewLease s p
    rw [exec_post_decided ha hs hn hp hclaim, postDecision_short (s := { s with claim := claim }) hk]
    refine ⟨fun hslot => ?_, fun hslot => ?_⟩
    · rw [if_pos (show (State.port { s with claim := claim } p).heldPost = none from hslot), hclaim]
      refine ⟨_, rfl, rfl, tableChangesAt_setDesc (s := s) hn (.held m), fun q => ?_⟩
      rw [State.answer_port, Events.holdPost_port, Events.holdPost_port,
        show State.handleAt { s with claim := claim } (handleIndex h) = h from handleAt_of_names hn]
      by_cases hq : q = p
      · subst hq
        simp only [if_true]
        rfl
      · simp only [if_neg hq]
        rfl
    · rw [if_neg (show ¬(State.port { s with claim := claim } p).heldPost = none from hslot), ← hclaim, refuse_renewed]

/-! ## Refills (R66, R71) -/

theorem heldMessage_of_names {s : State} {h : Handle} {m : Message} (hn : Names s h (.held m)) :
    s.heldMessage h = some m :=
  Events.heldMessage_eq_some.mpr hn

theorem slotAfterRefill_held {s : State} {hp : HeldPost} {m : Message} (hn : Names s hp.handle (.held m)) (tokens : Nat) :
    s.slotAfterRefill tokens (some hp)
      = some { handle := hp.handle
               releases := if hp.releases = 0 ∧ m.chain.length ≤ tokens then 1 else hp.releases } := by
  rw [State.slotAfterRefill, heldMessage_of_names hn]
  change (if hp.releases = 0 ∧ m.chain.length ≤ tokens then _ else _) = _
  by_cases h : hp.releases = 0 ∧ m.chain.length ≤ tokens
  · rw [if_pos h, if_pos h]
  · rw [if_neg h, if_neg h]

/-- One token is added below BD and no other (R66). -/
theorem refill_tokens (x : PortState) : x.refill.tokens = min (x.tokens + 1) (max x.tokens x.config.bucketDepth) := by
  dsimp only [PortState.refill]
  split <;> omega

/-- Settles O37: the tokens and the slot after a refill. -/
theorem refillAddsToken : Obligations.RefillAddsToken := by
  intro p s
  refine ⟨fun hdue tokens htokens => ⟨s.slotAfterRefill tokens (s.port p).heldPost, ?_, ?_, ?_⟩, fun hdue => ?_⟩
  · change execRefill p s = _
    rw [execRefill, if_pos hdue, State.modifyPort, htokens, ← refill_tokens]
    rfl
  · intro hslot
    rw [hslot]
    rfl
  · intro hp m hslot hn
    rw [hslot, slotAfterRefill_held hn]
  · change execRefill p s = _
    rw [execRefill, hdue, if_neg (by decide)]

/-! ## Release of a held post (R71, R73, R74) -/

section Release

variable {p : Port} {s : State} {hp : HeldPost} {m : Message}

theorem exec_release (hslot : (s.port p).heldPost = some hp) (hr : 1 ≤ hp.releases) (hn : Names s hp.handle (.held m)) :
    exec (.releaseOfHeldPost p) s
      = if (s.port p).session = .attached ∧ PacedThrough (s.port p) m.chain.length then .next (s.runRelease p hp.handle m)
        else .next (s.endRelease p hp) := by
  change execReleaseOfHeldPost p s = _
  simp only [execReleaseOfHeldPost, hslot, heldMessage_of_names hn, if_neg (Nat.pos_iff_ne_zero.mp hr), Message.cells,
    paced_iff]

theorem runRelease_delivers {h : Handle} (hw : WouldDeliver s m) :
    s.runRelease p h m
      = (((s.deliverOk (handleIndex h) m (s.judge m)).spendTokens p m.chain.length).emptySlot p).offer p
          (.posted h m.tag (s.port p).sequence (wouldAccept s m) (wouldBeOffline s m) (wouldBeFull s m)) := by
  rw [State.runRelease, if_pos ((succeeds_iff s m).mpr hw), postedNotice, judge_eq]
  rfl

theorem runRelease_fails {h : Handle} (hw : ¬WouldDeliver s m) :
    s.runRelease p h m
      = (((s.setDesc (handleIndex h) { generation := (s.desc (handleIndex h)).generation, state := .opened m }).deliverFail m
          (s.judge m)).emptySlot p).offer p
          (.postFailed h m.tag (failure s m) (wouldBeOffline s m) (wouldBeFull s m)) := by
  rw [State.runRelease, if_neg fun h => hw ((succeeds_iff s m).mp h), postFailedNotice, reason_eq, judge_eq]

end Release

/-- An emptied slot and an offered notice at each port (R73, R74). -/
theorem emptySlot_offer_port (s : State) (p q : Port) (n : Notice) :
    ((s.emptySlot p).offer p n).port q = if q = p then offered n { s.port q with heldPost := none } else s.port q := by
  rw [offer_port, Events.emptySlot_port]
  by_cases hq : q = p
  · simp only [if_pos hq]
  · simp only [if_neg hq]

/-- Settles O38: a begun release by the session of its port, its pacing and its delivery step. -/
theorem releaseOfHeldPost : Obligations.ReleaseOfHeldPost := by
  intro p s hp m hslot hr hn hsource
  rw [exec_release hslot hr hn]
  refine ⟨fun hs hk hw => ?_, fun hs hk hw => ?_, fun hno => ?_⟩
  · rw [if_pos ⟨hs, hk⟩, runRelease_delivers hw]
    refine ⟨_, rfl, ?_, ?_, fun q => ?_⟩
    · rw [State.offer_table, State.offer_eq]
      rfl
    · rw [TableChangesAt]
      simp only [State.offer_desc]
      exact deliverOk_tableChangesAt hn m
    · rw [emptySlot_offer_port, deliverOk_spendTokens_port, handleAt_of_names hn]
      by_cases hq : q = p
      · subst hq
        simp only [if_true]
      · simp only [if_neg hq]
  · rw [if_pos ⟨hs, hk⟩, runRelease_fails hw]
    refine ⟨_, rfl, ?_, ?_, fun q => ?_⟩
    · rw [State.offer_table, State.offer_eq]
      rfl
    · rw [TableChangesAt]
      simp only [State.offer_desc]
      exact tableChangesAt_setDesc hn (.opened m)
    · rw [emptySlot_offer_port, deliverFail_port _ _ m q fun r => State.port_setDesc _ _ _ _]
  · rw [if_neg fun h => hno.elim (fun k => k h.1) fun k => k h.2, State.endRelease, State.modifyPort]

end Posting
end Sys2Proof
end

section
/-! PROOFS. Consuming: PEEK, the refusals of READ, DONE, and the examination of a queue (chapters 5 and 6). -/

namespace Sys2Proof
namespace Consuming

open Sys2Proof.Machine Sys2Proof.Safety Sys2Proof.Effects Sys2Proof.Composing

-- One theorem after the other: side by side their elaborations hold more threads than the sandbox has room for.
set_option Elab.async false

/-! ## The head test (R88) -/

section Head

variable {s : State} {p : Port} {h : Handle} {l : Lane}

theorem headLane_none (hno : ∀ l : Lane, ((s.queue p l).entries.head?.map Entry.handle) ≠ some h) :
    s.headLane p h = none := by
  rw [State.headLane, if_neg (hno .urgent), if_neg (hno .routine)]

theorem headLane_some (hl : ((s.queue p l).entries.head?.map Entry.handle) = some h)
    (hfirst : l = .routine → ((s.queue p .urgent).entries.head?.map Entry.handle) ≠ some h) :
    s.headLane p h = some l := by
  rw [State.headLane]
  cases l with
  | urgent => rw [if_pos hl]
  | routine => rw [if_neg (hfirst rfl), if_pos hl]

theorem exists_headLane (hl : ((s.queue p l).entries.head?.map Entry.handle) = some h) : ∃ k, s.headLane p h = some k := by
  by_cases hu : ((s.queue p .urgent).entries.head?.map Entry.handle) = some h
  · exact ⟨.urgent, headLane_some hu (by rintro ⟨⟩)⟩
  · exact ⟨l, headLane_some hl fun _ => hu⟩

/-- The head entry with a handle, and its LIVE message. -/
theorem head_of_handle {m : Message} {d : Delivery} (hl : ((s.queue p l).entries.head?.map Entry.handle) = some h)
    (hn : Names s h (.live m d)) :
    ∃ e : Entry, e.handle = h ∧ s.head p l = some (some { entry := e, message := m, delivery := d }) := by
  cases he : (s.queue p l).entries with
  | nil => rw [he] at hl; cases hl
  | cons e rest =>
    rw [he] at hl
    cases hl
    exact ⟨e, rfl, head_of_names he hn⟩

end Head

/-! ## PEEK (R85, R86) -/

theorem selectionOf_selects {s : State} {p : Port} {sel : Byte} {l : Lane}
    (hsel : sel = laneByte l ∨ sel = 2#8 ∧ (l = .urgent ↔ (s.queue p .urgent).entries ≠ [])) :
    ∃ x, selectionOf sel = some x ∧ s.selectLane p x = l := by
  rcases hsel with rfl | ⟨rfl, hany⟩
  · refine ⟨.lane l, ?_, rfl⟩
    cases l <;> rfl
  · refine ⟨.any, rfl, ?_⟩
    rw [State.selectLane]
    cases l with
    | urgent => rw [if_neg (hany.mp rfl)]
    | routine => rw [if_pos (not_not.mp fun h => nomatch hany.mpr h)]

/-- Settles O39: PEEK by the selection and the head of the queue it names. -/
theorem peekReportsHead : Obligations.PeekReportsHead := by
  intro p s sel l ha hs
  obtain ⟨claim, hclaim⟩ := exists_renewLease s p
  have attached : sessionCheck false p { s with claim := claim } = none := sessionCheck_eq_none.mpr (.inl hs)
  have taken : exec (.peek p [sel]) s = peekBody p [sel] { s with claim := claim } := by
    rw [← hclaim]
    exact issue_taken (peekBody p) ha (show LengthFits 0x20#8 1 by decide)
  rw [taken, peekBody]
  simp only [attached]
  refine ⟨fun hbad => ?_, fun hsel => ?_⟩
  · rw [Encodings.selectionOf_none hbad, ← hclaim]
    exact refuse_renewed p .badArgument s
  obtain ⟨x, hx, hlane⟩ := selectionOf_selects hsel
  have lane : State.selectLane { s with claim := claim } p x = l := hlane
  simp only [hx, lane]
  refine ⟨fun hempty => ?_, fun e rest m d he hn => ?_⟩
  · rw [head_of_empty (s := { s with claim := claim }) hempty, ← hclaim]
    exact refuse_renewed p .empty s
  · have count : (State.queue { s with claim := claim } p l).entries.length = rest.length + 1 :=
      congrArg List.length he
    rw [head_of_names (s := { s with claim := claim }) he hn, count, ← hclaim]
    exact congrArg Host.Outcome.next (answer_renewed p .ok _ s)

/-! ## READ refused (R89) -/

theorem exec_read_taken {p : Port} {s : State} {h : Handle} {off count : Byte}
    (ha : Accepted s p 0x21#8 (be16 h ++ [off, count])) :
    exec (.read p (be16 h ++ [off, count])) s = readBody p (be16 h ++ [off, count]) (s.renewLease p) :=
  issue_taken (readBody p) ha (show LengthFits 0x21#8 4 by decide)

/-- READ in an attached session goes on from its argument and handle checks. -/
theorem readBody_eq {p : Port} {s : State} (hs : (s.port p).session = .attached) (h : Handle) (off count : Byte) :
    (count.toNat = 0 ∨ 64 < count.toNat → readBody p (be16 h ++ [off, count]) s = refuse p .badArgument s)
      ∧ (1 ≤ count.toNat → count.toNat ≤ 64 →
        (256 < off.toNat + count.toNat → readBody p (be16 h ++ [off, count]) s = refuse p .range s)
        ∧ (off.toNat + count.toNat ≤ 256 →
          (s.headLane p h = none → readBody p (be16 h ++ [off, count]) s = refuse p .staleHandle s)
          ∧ ∀ (l : Lane) (hd : Head), s.headLane p h = some l → s.head p l = some (some hd) →
            (hd.message.length < off.toNat + count.toNat → readBody p (be16 h ++ [off, count]) s = refuse p .range s)
            ∧ ∀ a, off.toNat + count.toNat ≤ hd.message.length →
              wordAddresses hd.message.chain (firstWord off.toNat) (wordCount off.toNat count.toNat) = some a →
              readBody p (be16 h ++ [off, count]) s = readTaken p hd off.toNat count.toNat a s)) := by
  rw [be16_eq, List.cons_append, List.cons_append, List.nil_append, readBody, sessionCheck_eq_none.mpr (.inl hs),
    word16_bytes]
  refine ⟨fun hbad => if_pos hbad, fun hmin hmax => ?_⟩
  have counted : ¬(count.toNat = 0 ∨ 64 < count.toNat) := by omega
  simp only [if_neg counted]
  refine ⟨fun hrange => if_pos hrange, fun hrange => ?_⟩
  simp only [if_neg (Nat.not_lt.mpr hrange)]
  refine ⟨fun hl => ?_, fun l hd hl hh => ⟨fun hlen => ?_, fun a hlen ha => ?_⟩⟩
  · simp only [hl]
  · simp only [hl, hh, if_pos hlen]
  · simp only [hl, hh, if_neg (Nat.not_lt.mpr hlen), ha]

/-- Settles O41: the checks of READ in their order. -/
theorem readRefused : Obligations.ReadRefused := by
  intro p s h off count ha hs
  obtain ⟨claim, hclaim⟩ := exists_renewLease s p
  obtain ⟨bad, good⟩ := readBody_eq (s := { s with claim := claim }) hs h off count
  have refused : ∀ {r}, readBody p (be16 h ++ [off, count]) { s with claim := claim }
      = refuse p r { s with claim := claim } →
      exec (.read p (be16 h ++ [off, count])) s = .next (answered s p r []) := fun hr => by
    rw [exec_read_taken ha, hclaim, hr, ← hclaim, refuse_renewed]
  refine ⟨fun hbad => refused (bad hbad), fun hmin hmax hrange => refused ((good hmin hmax).1 hrange),
    fun hmin hmax hrange => ?_⟩
  obtain ⟨stale, found⟩ := (good hmin hmax).2 hrange
  refine ⟨fun hno => refused (stale (headLane_none (s := { s with claim := claim }) hno)), fun l m d hl hn hlen => ?_⟩
  obtain ⟨k, hk⟩ := exists_headLane (s := { s with claim := claim }) hl
  obtain ⟨e, -, hhead⟩ := head_of_handle (s := { s with claim := claim }) (Steps.entries_of_headLane hk) hn
  exact refused ((found k _ hk hhead).1 hlen)

/-! ## DONE (R92) -/

/-- DONE in an attached session goes on from its head test. -/
theorem doneBody_eq {p : Port} {s : State} (hs : (s.port p).session = .attached) (h : Handle) :
    (s.headLane p h = none → doneBody p (be16 h) s = refuse p .staleHandle s)
      ∧ ∀ (l : Lane) (hd : Head), s.headLane p h = some l → s.head p l = some (some hd) →
        doneBody p (be16 h) s
          = .next (((s.removeHead p l hd .consumed).countMeters p fun x =>
              { x with consumed := satAdd x.consumed 1 }).answer p .ok []) := by
  rw [be16_eq, doneBody, sessionCheck_eq_none.mpr (.inl hs), word16_bytes]
  refine ⟨fun hl => ?_, fun l hd hl hh => ?_⟩
  · simp only [hl]
  · simp only [hl, hh]

/-- Settles O42: the removal of the head entry, counted and answered. -/
theorem doneConsumesHead : Obligations.DoneConsumesHead := by
  intro p s h ha hs
  obtain ⟨claim, hclaim⟩ := exists_renewLease s p
  have taken : exec (.done p (be16 h)) s = doneBody p (be16 h) { s with claim := claim } := by
    rw [← hclaim]
    exact issue_taken (doneBody p) ha (show LengthFits 0x22#8 2 by decide)
  obtain ⟨stale, found⟩ := doneBody_eq (s := { s with claim := claim }) hs h
  rw [taken]
  refine ⟨fun hno => ?_, fun l m d hl hfirst hn => ?_⟩
  · rw [stale (headLane_none (s := { s with claim := claim }) hno), ← hclaim, refuse_renewed]
  obtain ⟨e, rfl, hhead⟩ := head_of_handle (s := { s with claim := claim }) hl hn
  obtain ⟨within, table, port⟩ := removed_removeHead (s := { s with claim := claim }) (p := p) (l := l) hn .consumed
  rw [found l _ (headLane_some (s := { s with claim := claim }) hl hfirst) hhead, hclaim]
  refine ⟨_, rfl, ?_, table, fun q => ?_⟩
  · rw [within]
    rfl
  · rw [State.answer_port, State.countMeters, State.port_modifyPort, State.port_modifyPort, port, port]
    by_cases hq : q = p
    · subst hq
      simp only [if_true]
      rfl
    · simp only [if_neg hq]
      rfl

/-! ## Examination and expiry (R102 to R104) -/

/-- Settles O43: an examination by the series, the deadline and the head of its queue. -/
theorem examinationExpiresHead : Obligations.ExaminationExpiresHead := by
  intro p s l
  change (_ → execExamination p l s = _ ∧ execExpiry p l s = _)
    ∧ (_ → _ → execExamination p l s = _ ∧ execExpiry p l s = _)
    ∧ ∀ (e : Entry) (rest : List Entry) (m : Message) (d : Delivery), _ → _ → _ → _ →
        (_ → execExamination p l s = _ ∧ execExpiry p l s = _)
        ∧ (_ → ∃ t, execExamination p l s = _ ∧ execExpiry p l s = _ ∧ _)
  unfold execExamination execExpiry
  refine ⟨fun hseries => ?_, fun hseries hend => ?_, fun e rest m d hseries hdeadline he hn => ?_⟩
  · simp only [hseries, Bool.false_eq_true, if_false, false_and, and_self]
  · rcases hend with hend | hend
    · simp only [hseries, hend, if_true, ne_eq, not_true, and_false, if_false, and_true]
      rfl
    · simp only [hseries, head_of_empty hend, if_true, true_and, ite_self, and_true]
      rfl
  · simp only [hseries, hdeadline, head_of_names he hn, if_true, if_false, true_and, ne_eq, not_false_eq_true, waitReached,
      decide_eq_true_eq]
    refine ⟨fun hwait => ?_, fun hwait => ?_⟩
    · simp only [if_neg (Nat.not_le.mpr hwait), and_true]
      rfl
    · simp only [if_pos hwait]
      obtain ⟨within, table, port⟩ := removed_removeHead (p := p) (l := l) hn .expired
      refine ⟨_, rfl, rfl, ?_, ?_, fun q => ?_⟩
      · exact Within.trans within (.trans (within_offer _ _ _) rfl)
      · rw [TableAfterRemoval, State.expire]
        simp only [State.countMeters_desc, State.offer_desc, State.countMeters_freeList, State.offer_freeList]
        exact table
      · rw [State.expire, State.countMeters, State.port_modifyPort, offer_port, offer_port, port, port]
        by_cases hq : q = p
        · subst hq
          simp only [if_true]
          rfl
        · simp only [if_neg hq]

end Consuming
end Sys2Proof
end

section
/-! PROOFS. A port's own figures: NOTICES and the layout of its records, ACCOUNT, METERS, CONFIG_READ and the sampling of the
time meters (chapters 2, 7, 9 and 10). -/

namespace Sys2Proof
namespace Figures

open Sys2Proof.Machine Sys2Proof.Safety Sys2Proof.Composing

-- One theorem after the other: side by side their elaborations hold more threads than the sandbox has room for.
set_option Elab.async false

/-- A command that changes its own port and answers, at the holder's port with its lease renewed. -/
theorem modifyPort_answer_renewed (s : State) (p : Port) (f : PortState → PortState) (r : Result) (b : List Byte) :
    ((s.renewLease p).modifyPort p f).answer p r b = (s.renewLease p).setPort p (holding (f (s.port p)) r b) := by
  simp only [State.answer, State.modifyPort_eq, State.setPort_setPort, State.port_setPort_self, State.renewLease_port]
  rfl

/-! ## NOTICES (R115, R116, R187) -/

/-- NOTICES of an accepted frame, by its count and the queue. -/
theorem exec_notices {p : Port} {s : State} {max : Byte} (ha : Accepted s p 0x23#8 [max])
    (hs : (s.port p).session = .attached ∨ (s.port p).session = .offline) :
    exec (.notices p [max]) s
      = if max.toNat = 0 ∨ 4 < max.toNat then .next (answered s p .badArgument [])
        else if (s.port p).notices = [] then .next (answered s p .empty [])
        else .next ((s.renewLease p).setPort p
          (holding { s.port p with notices := (s.port p).notices.drop max.toNat } .ok
            (noticesPayload ((s.port p).notices.take max.toNat)))) := by
  have taken : exec (.notices p [max]) s = noticesBody p [max] (s.renewLease p) :=
    issue_taken (noticesBody p) ha (show LengthFits 0x23#8 1 by decide)
  have session : sessionCheck true p (s.renewLease p) = none :=
    sessionCheck_eq_none.mpr (by simpa using hs)
  rw [taken, noticesBody]
  simp only [session, refuse_renewed, modifyPort_answer_renewed, State.renewLease_port]

/-- Filling a record up to its sixteen bytes (R187). -/
theorem padRecord_eq {bytes : List Byte} {n k : Nat} (h : bytes.length = n) (hk : 16 - n = k) :
    padRecord bytes = bytes ++ List.replicate k 0#8 := by
  rw [padRecord, h, hk]

/-- Settles O44: the records collected, and the bytes of each kind. -/
theorem noticesCollected : Obligations.NoticesCollected := by
  refine ⟨fun p s max ha hs => ?_, fun h tag seq epoch l cells fault off full acc outs reason q houts => ⟨?_, rfl, ?_, rfl⟩⟩
  · rw [exec_notices ha hs]
    refine ⟨fun hbad => if_pos hbad, fun hmin hmax => ?_⟩
    rw [if_neg (by omega)]
    refine ⟨fun hempty => if_pos hempty, fun hsome => ?_⟩
    rw [if_neg hsome, noticesPayload, List.length_take]
    rfl
  · refine (padRecord_eq (n := 11 + outs.length) (k := 5 - outs.length) ?_ (by omega)).trans rfl
    rw [List.length_append, List.length_map]
    rfl
  · cases reason <;> rfl

/-! ## ACCOUNT, METERS and CONFIG_READ (R38, R169, R150) -/

theorem outstanding_renewLease (s : State) (p q : Port) : (s.renewLease p).outstanding q = s.outstanding q := by
  rw [State.renewLease_eq]
  rfl

theorem exec_account {p : Port} {s : State} (ha : Accepted s p 0x30#8 [])
    (hs : (s.port p).session = .attached ∨ (s.port p).session = .offline) :
    exec (.account p []) s = .next (answered s p .ok (accountPayload (s.port p) (s.outstanding p))) := by
  have taken : exec (.account p []) s = accountBody p [] (s.renewLease p) :=
    issue_taken (accountBody p) ha (show LengthFits 0x30#8 0 by decide)
  have session : sessionCheck true p (s.renewLease p) = none :=
    sessionCheck_eq_none.mpr (by simpa using hs)
  rw [taken, accountBody]
  simp only [session, answer_renewed, State.renewLease_port, outstanding_renewLease]

theorem exec_meters {p : Port} {s : State} {zero : Byte} (ha : Accepted s p 0x31#8 [zero])
    (hs : (s.port p).session = .attached ∨ (s.port p).session = .offline) :
    (yesNoOf zero = none → exec (.meters p [zero]) s = .next (answered s p .badArgument []))
      ∧ ∀ z, yesNoOf zero = some z →
        exec (.meters p [zero]) s = .next ((s.renewLease p).setPort p
          (holding { s.port p with meters := if z then Meters.zero else (s.port p).meters } .ok
            (metersPayload (s.port p).meters))) := by
  have taken : exec (.meters p [zero]) s = metersBody p [zero] (s.renewLease p) :=
    issue_taken (metersBody p) ha (show LengthFits 0x31#8 1 by decide)
  have session : sessionCheck true p (s.renewLease p) = none :=
    sessionCheck_eq_none.mpr (by simpa using hs)
  rw [taken, metersBody]
  refine ⟨fun hz => ?_, fun z hz => ?_⟩
  · simp only [session, hz, refuse_renewed]
  · cases z with
    | false =>
      simp only [session, hz, Bool.false_eq_true, if_false, answer_renewed, State.renewLease_port]
      rfl
    | true =>
      simp only [session, hz, if_true, State.countMeters, modifyPort_answer_renewed, State.renewLease_port]

theorem yesNoOf_eq {b : Byte} (h : b.toNat ≤ 1) : yesNoOf b = some (decide (b = 1#8)) := by
  have hb : b = 0#8 ∨ b = 1#8 := by bv_omega
  rcases hb with rfl | rfl
  · rfl
  · rfl

theorem exec_configRead {p : Port} {s : State} {target : Byte} (ha : Accepted s p 0x43#8 [target])
    (hs : (s.port p).session = .attached) :
    (portOf target = none → exec (.configRead p [target]) s = .next (answered s p .badArgument []))
      ∧ ∀ q, portOf target = some q →
        exec (.configRead p [target]) s = .next (answered s p .ok (configPayload q (s.port q).config)) := by
  have taken : exec (.configRead p [target]) s = configReadBody p [target] (s.renewLease p) :=
    issue_taken (configReadBody p) ha (show LengthFits 0x43#8 1 by decide)
  have session : sessionCheck false p (s.renewLease p) = none :=
    sessionCheck_eq_none.mpr (.inl (by rwa [State.renewLease_port]))
  rw [taken, configReadBody]
  refine ⟨fun hq => ?_, fun q hq => ?_⟩
  · simp only [session, hq, refuse_renewed]
  · simp only [session, hq, answer_renewed, State.renewLease_port]

/-- Settles O45: the answers of the three commands. -/
theorem portFiguresReported : Obligations.PortFiguresReported := by
  refine ⟨fun p s hs => ⟨fun ha => exec_account ha hs, fun zero ha => ?_⟩, fun p q s ha hs =>
    (exec_configRead ha hs).2 q (Encodings.portOf_portByte q)⟩
  obtain ⟨neither, yesOrNo⟩ := exec_meters ha hs
  refine ⟨fun hbad => neither (Encodings.yesNoOf_none hbad), fun hok => ?_⟩
  rw [yesOrNo _ (yesNoOf_eq hok)]
  simp only [decide_eq_true_eq]
  rfl

/-! ## Sampling (R164, R168) -/

/-- Settles O46: one sampling of the time meters, and none without a delivered mark. -/
theorem samplingAddsCharge : Obligations.SamplingAddsCharge := by
  intro p s
  refine ⟨fun hnone => if_pos hnone, fun hdue held borrow hheld hborrow => ?_⟩
  have taken : exec (.samplingEvent p) s = .next (s.modifyPort p PortState.sample) :=
    if_neg (Nat.pos_iff_ne_zero.mp hdue)
  rw [taken, State.modifyPort, hheld, hborrow]
  rfl

end Figures
end Sys2Proof
end

section
/-! PROOFS. The configuration claim, its lease, and CONFIGURE (chapter 9). -/

namespace Sys2Proof
namespace Claims

open Sys2Proof.Machine Sys2Proof.Safety Sys2Proof.Composing

-- One theorem after the other: side by side their elaborations hold more threads than the sandbox has room for.
set_option Elab.async false

/-! ## CLAIM, RELEASE and the lease (R152 to R155) -/

theorem exec_claim_taken {p : Port} {s : State} (ha : Accepted s p 0x40#8 []) (hs : (s.port p).session = .attached) :
    exec (.claim p []) s
      = if s.claim = none ∨ s.holdsClaim p = true then .next (((s.renewLease p).grantClaim p).answer p .ok [])
        else .next (answered s p .claimHeld []) := by
  have taken : exec (.claim p []) s = claimBody p [] (s.renewLease p) :=
    issue_taken (claimBody p) ha (show LengthFits 0x40#8 0 by decide)
  have session : sessionCheck false p (s.renewLease p) = none :=
    sessionCheck_eq_none.mpr (.inl (by rwa [State.renewLease_port]))
  have unclaimed : (s.renewLease p).claim = none ↔ s.claim = none := by
    rw [State.renewLease]
    split
    · next holder =>
      refine iff_of_false (Option.some_ne_none _) fun hnone => ?_
      rw [State.holdsClaim, hnone] at holder
      cases holder
    · rfl
  rw [taken, claimBody]
  simp only [session, refuse_renewed, unclaimed, State.renewLease_holdsClaim]

/-- A grant takes no lease event of a mark before it (R155). -/
theorem renewLease_grantClaim {s : State} {p : Port} (h : s.claim = none ∨ s.holdsClaim p = true) :
    (s.renewLease p).grantClaim p
      = { s with
          claim := some { holder := p, lease := 2000 }
          leaseDue := if s.claim = none then false else s.leaseDue } := by
  by_cases hp : s.holdsClaim p = true
  · have hsome : s.claim ≠ none := fun hnone => by
      rw [State.holdsClaim, hnone] at hp
      cases hp
    rw [State.grantClaim, State.renewLease_holdsClaim, hp, if_neg hsome, State.renewLease, if_pos hp, Bool.and_true]
    rfl
  · have hnone := h.resolve_right hp
    rw [Bool.not_eq_true] at hp
    rw [Checks.renewLease_of_not_holder hp, State.grantClaim, hp, if_pos hnone, Bool.and_false]
    rfl

theorem exec_release_taken {p : Port} {s : State} (ha : Accepted s p 0x41#8 []) (hs : (s.port p).session = .attached)
    (hc : s.holdsClaim p = true) :
    exec (.release p []) s = .next ({ s with claim := none, leaseDue := false }.setPort p (holding (s.port p) .ok [])) := by
  have taken : exec (.release p []) s = releaseBody p [] (s.renewLease p) :=
    issue_taken (releaseBody p) ha (show LengthFits 0x41#8 0 by decide)
  have session : sessionCheck false p (s.renewLease p) = none :=
    sessionCheck_eq_none.mpr (.inl (by rwa [State.renewLease_port]))
  have holder : claimCheck p (s.renewLease p) = none :=
    claimCheck_eq_none.mpr (by rwa [State.renewLease_holdsClaim])
  rw [taken, releaseBody, session, holder, State.renewLease, if_pos hc]
  rfl

/-- A lowered lease that stays above 0. -/
theorem lowerLease_held {s : State} {p : Port} {n : Nat} (h : s.claim = some { holder := p, lease := n }) (hn : 2 ≤ n) :
    s.lowerLease = { s with claim := some { holder := p, lease := n - 1 } } := by
  rw [State.lowerLease, h]
  exact if_neg (show ¬n ≤ 1 by omega)

/-- A lease that falls to 0. -/
theorem lowerLease_lost {s : State} {p : Port} (h : s.claim = some { holder := p, lease := 1 }) :
    s.lowerLease = s.dropClaim.setPort p ((s.port p).raise .claimLost) := by
  rw [State.lowerLease, h]
  rfl

theorem leaseEnding_eq {s : State} {p : Port} {n : Nat} (h : s.claim = some { holder := p, lease := n }) :
    s.leaseEnding = decide (n ≤ 1) := by
  rw [State.leaseEnding, h]

/-- The two rows of the lease event (log entry 15). -/
theorem exec_leaseRows (s : State) :
    exec .leaseDecrement s = (if s.leaseDue = true then .next ({ s with leaseDue := false } : State).lowerLease else .next s)
      ∧ exec .claimExpiry s
        = if s.leaseDue = true ∧ s.leaseEnding = true then .next ({ s with leaseDue := false } : State).lowerLease
          else .next s := by
  refine ⟨rfl, ?_⟩
  change execClaimExpiry s = _
  rw [execClaimExpiry]
  simp only [Bool.and_eq_true]

/-- Settles O47: a claim's grant, its release and the lease event of a mark. -/
theorem claimLifeCycle : Obligations.ClaimLifeCycle := by
  refine ⟨fun p s hs => ⟨fun ha => ⟨fun hfree => ?_, fun hsome hother => ?_⟩, fun ha hc => exec_release_taken ha hs hc⟩,
    fun s => ?_⟩
  · rw [exec_claim_taken ha hs, if_pos hfree, renewLease_grantClaim hfree]
    rfl
  · have other : ¬(s.claim = none ∨ s.holdsClaim p = true) := by simp [hsome, hother]
    rw [exec_claim_taken ha hs, if_neg other, answered, Checks.renewLease_of_not_holder hother]
  · obtain ⟨decrement, expiry⟩ := exec_leaseRows s
    rw [decrement, expiry]
    refine ⟨fun hno => ?_, fun hdue hnone => ?_, fun p n hdue hclaim => ⟨fun hn => ?_, ?_⟩⟩
    · simp only [hno, Bool.false_eq_true, false_and, if_false, and_self]
    · have ending : s.leaseEnding = false := by rw [State.leaseEnding, hnone]
      have lowered : ({ s with leaseDue := false } : State).lowerLease = { s with leaseDue := false } := by
        rw [State.lowerLease, hnone]
      simp only [hdue, ending, lowered, Bool.false_eq_true, and_false, if_true, if_false, and_self]
    · have lowered := lowerLease_held (s := { s with leaseDue := false }) hclaim hn
      have ending : s.leaseEnding = false := by rw [leaseEnding_eq hclaim, decide_eq_false (by omega)]
      simp only [hdue, ending, lowered, Bool.false_eq_true, and_false, if_true, if_false, and_self]
    · rintro rfl
      have ending : s.leaseEnding = true := by rw [leaseEnding_eq hclaim]; rfl
      have lowered := lowerLease_lost (s := { s with leaseDue := false }) hclaim
      simp only [hdue, ending, lowered, and_self, if_true, and_true]
      rfl

/-! ## The checks of CONFIGURE (R158 to R160) -/

section Configure

variable {p q : Port} {s : State} {target field : Byte} {v : BitVec 16} {f : ConfigField}

theorem exec_configure (ha : Accepted s p 0x42#8 ([target, field] ++ be16 v)) (hs : (s.port p).session = .attached)
    (hc : s.holdsClaim p = true) :
    ((∀ q f, portOf target = some q → fieldOf field = some f → f.inRange v.toNat = false) →
      exec (.configure p ([target, field] ++ be16 v)) s = .next (answered s p .badArgument []))
    ∧ ∀ q f, portOf target = some q → fieldOf field = some f → f.inRange v.toNat = true →
      exec (.configure p ([target, field] ++ be16 v)) s
        = if s.inUse q f v.toNat = true then .next (answered s p .inUse [])
          else if (s.port q).config.field f = v.toNat then .next (answered s p .ok [])
          else .next (((s.renewLease p).configureTaken p q f v.toNat).answer p .ok []) := by
  have taken : exec (.configure p ([target, field] ++ be16 v)) s
      = configureBody p ([target, field] ++ be16 v) (s.renewLease p) :=
    issue_taken (configureBody p) ha (show LengthFits 0x42#8 4 by decide)
  have checks : (sessionCheck false p (s.renewLease p) <|> claimCheck p (s.renewLease p)) = none := by
    rw [sessionCheck_eq_none.mpr (.inl (by rwa [State.renewLease_port])),
      claimCheck_eq_none.mpr (by rwa [State.renewLease_holdsClaim])]
    rfl
  have inUse : ∀ q f n, (s.renewLease p).inUse q f n = s.inUse q f n := fun q f n => by
    rw [State.renewLease_eq]
    rfl
  rw [taken, be16_eq, List.cons_append, List.cons_append, List.nil_append, configureBody]
  simp only [checks, word16_bytes, inUse, State.renewLease_port, answer_renewed, refuse_renewed]
  refine ⟨fun hbad => ?_, fun q f hq hf hr => ?_⟩
  · cases hq : portOf target with
    | none => rfl
    | some q =>
      cases hf : fieldOf field with
      | none => rfl
      | some f => simp only [hbad q f hq hf, Bool.false_eq_true, if_false]
  · simp only [hq, hf, hr, if_true]

/-- A value that no IN_USE test refuses (R160). -/
theorem inUse_eq_false {n : Nat}
    (hreserved : ∀ l : Lane, f = .reserved l → (s.port q).reservedUse.get l ≤ n
      ∧ s.totalAllotments - (s.port q).config.reserved.get l + n ≤ 512
      ∧ s.totalBorrowed ≤ 512 - (s.totalAllotments - (s.port q).config.reserved.get l + n))
    (hceiling : f = .borrowCeiling → (s.port q).borrowed ≤ n) (hcap : f = .outstandingCap → s.outstanding q ≤ n) :
    s.inUse q f n = false := by
  cases f with
  | reserved l =>
    obtain ⟨huse, hsum, hshared⟩ := hreserved l rfl
    refine decide_eq_false ?_
    change ¬(_ ∨ 512 < _ ∨ 512 - _ < _)
    omega
  | borrowCeiling => exact decide_eq_false (Nat.not_lt.mpr (hceiling rfl))
  | outstandingCap => exact decide_eq_false (Nat.not_lt.mpr (hcap rfl))
  | paceInterval => rfl
  | bucketDepth => rfl

/-- A byte outside the range of the field that it names, or that names none. -/
theorem inRange_eq_false {n : Nat}
    (h : 6 ≤ field.toNat ∨ (field.toNat ≤ 1 ∧ 128 < n) ∨ (field = 2#8 ∧ 512 < n) ∨ (field = 3#8 ∧ (n = 0 ∨ 64 < n))
      ∨ (field = 5#8 ∧ (n < 8 ∨ 512 < n))) (hf : fieldOf field = some f) : f.inRange n = false := by
  rcases h with h | ⟨h, hn⟩ | ⟨rfl, hn⟩ | ⟨rfl, hn⟩ | ⟨rfl, hn⟩
  · rw [Encodings.fieldOf_none h] at hf
    cases hf
  · have hb : field = 0#8 ∨ field = 1#8 := by bv_omega
    rcases hb with rfl | rfl
    · cases hf
      exact decide_eq_false (Nat.not_le.mpr hn)
    · cases hf
      exact decide_eq_false (Nat.not_le.mpr hn)
  · cases hf
    exact decide_eq_false (Nat.not_le.mpr hn)
  · cases hf
    exact decide_eq_false (by omega)
  · cases hf
    exact decide_eq_false (by omega)

end Configure

/-- Settles O48: the IN_USE tests, and the arguments that name no port, no field or no value of it. -/
theorem configureRefused : Obligations.ConfigureRefused := by
  refine ⟨fun p q s field v ha hs hc htests => ?_, fun p s target field v hs => ⟨fun ha hc hbad => ?_, fun ha ht => ?_⟩⟩
  · have refused : ∀ f, fieldOf field = some f → f.inRange v.toNat = true → s.inUse q f v.toNat = true →
        exec (.configure p ([BitVec.ofNat 8 q.toNat, field] ++ be16 v)) s = .next (answered s p .inUse []) :=
      fun f hf hr hu => by
        rw [(exec_configure ha hs hc).2 q f (Encodings.portOf_portByte q) hf hr, if_pos hu]
    rcases htests with ⟨l, rfl, hr, hu⟩ | ⟨rfl, hr, hu⟩ | ⟨rfl, hmin, hmax, hu⟩
    · exact refused (.reserved l) (by cases l <;> rfl) (decide_eq_true hr) (decide_eq_true hu)
    · exact refused .borrowCeiling rfl (decide_eq_true hr) (decide_eq_true hu)
    · exact refused .outstandingCap rfl (decide_eq_true ⟨hmin, hmax⟩) (decide_eq_true hu)
  · refine (exec_configure ha hs hc).1 fun q f hq hf => ?_
    rcases hbad with ht | hbad
    · rw [Encodings.portOf_none ht] at hq
      cases hq
    · exact inRange_eq_false hbad hf
  · exact (Figures.exec_configRead ha hs).1 (Encodings.portOf_none ht)

/-! ## CONFIGURE taken (R161, R33, R68, R69, R71) -/

/-- A field applied by the block that reads it. -/
theorem applyField_eq (a : PortState) (f : ConfigField) (n : Nat) :
    a.applyField f n
      = { a with
          config := a.config.setField f n
          interval := if f = .paceInterval then n else a.interval
          refillDue := if f = .paceInterval then false else a.refillDue
          heldPost :=
            if f = .paceInterval ∧ n = 0 then a.heldPost.map fun hp => { hp with releases := hp.releases + 1 }
            else a.heldPost
          tokens := if f = .bucketDepth then min a.tokens n else a.tokens } := by
  cases f with
  | paceInterval => simp [PortState.applyField, PortState.setPace]
  | _ => rfl

/-- A port after the changed field of port `q` has been applied. -/
def fieldApplied (s : State) (q : Port) (f : ConfigField) (n : Nat) (x : Port) : PortState :=
  if x = q then (s.port x).applyField f n else s.port x

theorem fieldApplied_creditWait (s : State) (q : Port) (f : ConfigField) (n : Nat) (x : Port) :
    (fieldApplied s q f n x).creditWait = (s.port x).creditWait := by
  unfold fieldApplied
  split
  · rw [applyField_eq]
  · rfl

/-- A marker resolved for a port that a change qualifies (R33). -/
theorem resolveMarker_if (on : Bool) (b : PortState) :
    (if on = true then b.resolveMarker else b)
      = if (b.creditWait && on) = true then { b.raise .creditFreed with creditWait := false } else b := by
  rw [PortState.resolveMarker]
  cases on
  · rw [Bool.and_false]
    rfl
  · rw [Bool.and_true]
    rfl

/-- A taken CONFIGURE at each port. -/
theorem configureTaken_port (s : State) (p q : Port) (f : ConfigField) (n : Nat) (x : Port) :
    (s.configureTaken p q f n).port x
      = raisedIf (decide (x ≠ p ∧ (s.port x).session = .attached)) .configChanged
          (if ((s.port x).creditWait && resolvedBy q f ((s.port q).config.field f) n x) = true then
            { (fieldApplied s q f n x).raise .creditFreed with creditWait := false }
          else fieldApplied s q f n x) := by
  have applied : (if x = q then (s.port q).applyField f n else s.port x) = fieldApplied s q f n x := by
    unfold fieldApplied
    split
    · next hx => rw [hx]
    · rfl
  rw [State.configureTaken, State.port_raiseWhere, State.resolveMarkers, State.port_mapPorts, State.port_modifyPort,
    applied, resolveMarker_if, fieldApplied_creditWait]
  rfl

/-- Which markers a change resolves, where the value changes (R33). -/
theorem resolvedBy_eq {q x : Port} {f : ConfigField} {c : PortConfig} {n : Nat} (h : c.field f ≠ n) :
    resolvedBy q f (c.field f) n x
      = (match f with
          | .reserved l => decide (n < c.reserved.get l ∨ x = q)
          | .borrowCeiling => decide (c.borrowCeiling < n ∧ x = q)
          | .outstandingCap => false
          | .paceInterval => false
          | .bucketDepth => false) := by
  cases f with
  | reserved l =>
    refine decide_eq_decide.mpr (or_congr_right' fun lowered => ?_)
    exact and_iff_right (Nat.lt_of_le_of_ne (Nat.not_lt.mp lowered) h)
  | _ => rfl

/-- Settles O49: the checks passed, and the taken change port by port. -/
theorem configureTaken : Obligations.ConfigureTaken := by
  intro p q s v f field hf hr ha hs hc hreserved hceiling hcap
  rw [(exec_configure ha hs hc).2 q f (Encodings.portOf_portByte q) hf hr, inUse_eq_false hreserved hceiling hcap,
    if_neg Bool.false_ne_true]
  refine ⟨fun hsame => if_pos hsame, fun hchanged => ?_⟩
  rw [if_neg hchanged]
  obtain ⟨claim, hclaim⟩ := exists_renewLease s p
  rw [hclaim]
  refine ⟨_, rfl, rfl, fun x => ?_⟩
  have port : ∀ y, (State.configureTaken { s with claim := claim } p q f v.toNat).port y
      = raisedIf (decide (y ≠ p ∧ (s.port y).session = .attached)) .configChanged
          (if ((s.port y).creditWait && resolvedBy q f ((s.port q).config.field f) v.toNat y) = true then
            { (fieldApplied s q f v.toNat y).raise .creditFreed with creditWait := false }
          else fieldApplied s q f v.toNat y) := configureTaken_port { s with claim := claim } p q f v.toNat
  rw [State.answer_port, port, port, resolvedBy_eq hchanged, resolvedBy_eq hchanged, fieldApplied, fieldApplied,
    applyField_eq, applyField_eq]
  by_cases hx : x = p
  · subst hx
    simp only [if_true]
    cases f <;> rfl
  · simp only [if_neg hx]
    cases f <;> rfl

end Claims
end Sys2Proof
end

section
/-! PROOFS. Message bytes in the pool: the words that WRITE stores and READ returns (chapters 2, 3 and 5). -/

namespace Sys2Proof
namespace MessageBytes

open Sys2Proof.Machine Sys2Proof.Safety Sys2Proof.Effects Sys2Proof.Composing

-- One theorem after the other: side by side their elaborations hold more threads than the sandbox has room for.
set_option Elab.async false

/-! ## The bytes of a word -/

theorem wordByte_bytesWord (a b c d : Byte) (k : Nat) : wordByte (bytesWord a b c d) k = [a, b, c, d].getD k 0#8 := by
  rw [wordByte, Registers.wordBytes_bytesWord]

/-- A merged word, byte by byte (R18). -/
theorem wordByte_mergedWord (o : Nat) (data : List Byte) (w : Nat) (x : Word) {k : Nat} (hk : k < 4) :
    wordByte (mergedWord o data w x) k = mergedByte o data (4 * w + k) (wordByte x k) := by
  rw [mergedWord, wordByte_bytesWord]
  obtain rfl | rfl | rfl | rfl : k = 0 ∨ k = 1 ∨ k = 2 ∨ k = 3 := by omega
  · rfl
  · rfl
  · rfl
  · rfl

theorem mergedByte_inside {o : Nat} {data : List Byte} {j : Nat} (hj : j < data.length) (x : Byte) :
    mergedByte o data (o + j) x = data[j] := by
  rw [mergedByte, if_neg (by omega), Nat.add_sub_cancel_left, List.getElem?_eq_getElem hj]
  rfl

theorem mergedByte_outside {o : Nat} {data : List Byte} {b : Nat} (hb : b < o ∨ o + data.length ≤ b) (x : Byte) :
    mergedByte o data b x = x := by
  unfold mergedByte
  split
  · rfl
  · rw [List.getElem?_eq_none (by omega)]
    rfl

/-- The bytes of a run of words (R90). -/
theorem flatMap_wordBytes_getElem? (words : List Word) (k : Nat) :
    (words.flatMap wordBytes)[k]? = (words[k / 4]?).map fun w => wordByte w (k % 4) := by
  induction words generalizing k with
  | nil => rfl
  | cons w rest ih =>
    rw [List.flatMap_cons]
    by_cases hk : k < 4
    · rw [List.getElem?_append_left hk, Nat.div_eq_of_lt hk, Nat.mod_eq_of_lt hk, List.getElem?_eq_getElem hk]
      exact congrArg some (List.getD_eq_getElem _ _ hk).symm
    · have hdiv : k / 4 = (k - 4) / 4 + 1 := by omega
      have hmod : k % 4 = (k - 4) % 4 := by omega
      rw [List.getElem?_append_right (Nat.not_lt.mp hk), hdiv, hmod, List.getElem?_cons_succ]
      exact ih (k - 4)

theorem flatMap_wordBytes_length (words : List Word) : (words.flatMap wordBytes).length = 4 * words.length := by
  induction words with
  | nil => rfl
  | cons w rest ih =>
    rw [List.flatMap_cons, List.length_append, ih, List.length_cons]
    change 4 + _ = _
    omega

/-! ## Classes of words (R16) -/

theorem classify_fresh (w : Word) : (StoredWord.fresh w).classify = .clean := by
  have agreeing : (StoredWord.fresh w).disagreeing = 0 := by
    rw [StoredWord.disagreeing, StoredWord.fresh, BitVec.xor_self]
    simp [bitCount]
  rw [StoredWord.classify, agreeing]

theorem kept_eq_readable (w : StoredWord) : w.kept = readable w := by
  unfold StoredWord.kept readable
  cases w.classify <;> rfl

/-! ## The addresses of a message's words (R16) -/

/-- The address of word `w` of a message. -/
def addressOf (chain : List CellIndex) (w : Nat) : Option Nat := (chain[w / 8]?).map fun c => c.val * 8 + w % 8

theorem byteAddress_eq (m : Message) (b : Nat) : byteAddress m b = addressOf m.chain (b / 4) := by
  have hcell : b / 4 / 8 = b / 32 := by omega
  have hplace : b / 4 % 8 = b % 32 / 4 := by omega
  rw [byteAddress, addressOf, hcell, hplace]

theorem addressOf_injective {chain : List CellIndex} (hn : chain.Nodup) {v w a : Nat} (hv : addressOf chain v = some a)
    (hw : addressOf chain w = some a) : v = w := by
  obtain ⟨c, hc, hca⟩ := Option.map_eq_some_iff.mp hv
  obtain ⟨d, hd, hda⟩ := Option.map_eq_some_iff.mp hw
  have same : c = d := Fin.ext (by omega)
  obtain ⟨hlt, -⟩ := List.getElem?_eq_some_iff.mp hc
  have hcell : v / 8 = w / 8 := (List.getElem?_inj hlt hn).mp (hc.trans (same ▸ hd.symm))
  omega

theorem wordAddresses_getElem? {chain : List CellIndex} {w n : Nat} {l : List Nat} (h : wordAddresses chain w n = some l) :
    l.length = n ∧ ∀ i < n, l[i]? = addressOf chain (w + i) := by
  induction n generalizing w l with
  | zero =>
    cases h
    exact ⟨rfl, fun _ hi => absurd hi (Nat.not_lt_zero _)⟩
  | succ n ih =>
    rw [wordAddresses] at h
    split at h
    · next c rest hc hrest =>
      cases h
      obtain ⟨hlen, hget⟩ := ih hrest
      refine ⟨congrArg (· + 1) hlen, fun i hi => ?_⟩
      cases i with
      | zero => rw [addressOf, Nat.add_zero, hc]; rfl
      | succ i =>
        rw [List.getElem?_cons_succ, hget i (by omega)]
        congr 1
        omega
    · cases h

theorem wordAddresses_nodup {chain : List CellIndex} (hn : chain.Nodup) {w n : Nat} {l : List Nat}
    (h : wordAddresses chain w n = some l) : l.Nodup := by
  obtain ⟨hlen, hget⟩ := wordAddresses_getElem? h
  refine List.nodup_iff_getElem?_ne_getElem?.mpr fun i j hij hj same => ?_
  have ha : l[j]? = some l[j] := List.getElem?_eq_getElem hj
  have := addressOf_injective hn ((hget i (by omega)).symm.trans (same.trans ha)) ((hget j (by omega)).symm.trans ha)
  omega

section Range

variable {m : Message} {o n : Nat} {l : List Nat}

theorem addresses_getElem? (hl : wordAddresses m.chain (firstWord o) (wordCount o n) = some l) {b : Nat}
    (hmin : o / 4 ≤ b / 4) (hmax : b / 4 ≤ (o + n - 1) / 4) : l[b / 4 - o / 4]? = byteAddress m b := by
  rw [(wordAddresses_getElem? hl).2 (b / 4 - o / 4) (by unfold wordCount; omega), byteAddress_eq, firstWord]
  congr 1
  omega

theorem mem_addresses_iff (hl : wordAddresses m.chain (firstWord o) (wordCount o n) = some l) (hn : 1 ≤ n) {a : Nat} :
    a ∈ l ↔ ∃ j < n, byteAddress m (o + j) = some a := by
  obtain ⟨hlen, hget⟩ := wordAddresses_getElem? hl
  refine ⟨fun ha => ?_, fun ⟨j, hj, ha⟩ => ?_⟩
  · obtain ⟨i, hi, hia⟩ := List.getElem_of_mem ha
    have hcount : i < wordCount o n := hlen ▸ hi
    have place : (o + (4 * (o / 4 + i) - o)) / 4 = o / 4 + i := by omega
    unfold wordCount at hcount
    refine ⟨4 * (o / 4 + i) - o, by omega, ?_⟩
    rw [byteAddress_eq, place]
    exact (hget i (by unfold wordCount; omega)).symm.trans (List.getElem?_eq_some_iff.mpr ⟨hi, hia⟩)
  · have := addresses_getElem? hl (b := o + j) (by omega) (by omega)
    exact List.mem_of_getElem? (this.trans ha)

end Range

/-! ## Words written and read -/

/-- A pool whose addresses rise. -/
abbrev Rising (pool : Pool) : Prop := List.Pairwise (fun x y : Nat × StoredWord => x.1 < y.1) pool

/-- What a WRITE leaves at every address (R18). -/
theorem writeWords_lookup {l : List Nat} {pool : Pool} (o : Nat) (data : List Byte) (w : Nat) (hl : l.Nodup)
    (hp : Rising pool) :
    (∀ a ∉ l, (writeWords o data w l pool).lookup a = pool.lookup a)
      ∧ ∀ (i a : Nat), l[i]? = some a → (writeWords o data w l pool).lookup a
          = StoredWord.fresh (mergedWord o data (w + i) (readable (pool.lookup a))) := by
  induction l generalizing w pool with
  | nil => exact ⟨fun _ _ => rfl, fun i a h => by cases h⟩
  | cons b rest ih =>
    obtain ⟨hb, hrest⟩ := List.nodup_cons.mp hl
    rw [writeWords, kept_eq_readable]
    obtain ⟨other, touched⟩ := ih (w + 1) hrest
      (Pool.sorted_store b (StoredWord.fresh (mergedWord o data w (readable (pool.lookup b)))) hp)
    refine ⟨fun a ha => ?_, fun i a hi => ?_⟩
    · obtain ⟨hab, ha⟩ := not_or.mp (mt List.mem_cons.mpr ha)
      rw [other a ha, Pool.lookup_store _ _ _ hp, if_neg hab]
    · cases i with
      | zero =>
        cases hi
        rw [other b hb, Pool.lookup_store _ _ _ hp, if_pos rfl, Nat.add_zero]
      | succ i =>
        have hi : rest[i]? = some a := hi
        have hab : a ≠ b := fun h => hb (h ▸ List.mem_of_getElem? hi)
        rw [touched i a hi, Pool.lookup_store _ _ _ hp, if_neg hab]
        congr 2
        omega

/-- The pool after a READ of one word: a correctable word is written back clean (R17). -/
def readBack (pool : Pool) (a : Nat) : Pool :=
  if (pool.lookup a).classify = .correctable then pool.store a (StoredWord.fresh (pool.lookup a).corrected) else pool

theorem rising_readBack {pool : Pool} (hp : Rising pool) (a : Nat) : Rising (readBack pool a) := by
  unfold readBack
  split
  · exact Pool.sorted_store a _ hp
  · exact hp

theorem readBack_lookup {pool : Pool} (hp : Rising pool) (a b : Nat) :
    (readBack pool a).lookup b
      = if (pool.lookup b).classify = .correctable ∧ b = a then StoredWord.fresh (pool.lookup b).corrected
        else pool.lookup b := by
  unfold readBack
  by_cases hb : b = a
  · subst hb
    by_cases hc : (pool.lookup b).classify = .correctable
    · rw [if_pos hc, Pool.lookup_store _ _ _ hp, if_pos rfl, if_pos ⟨hc, rfl⟩]
    · rw [if_neg hc, if_neg fun h => hc h.1]
  · rw [if_neg (fun h => hb h.2 : ¬((pool.lookup b).classify = .correctable ∧ b = a))]
    split
    · rw [Pool.lookup_store _ _ _ hp, if_neg hb]
    · rfl

/-- A READ takes the first word and goes on with the rest (R17). -/
theorem readWords_cons (a : Nat) (rest : List Nat) (pool : Pool) :
    readWords (a :: rest) pool
      = { words := readable (pool.lookup a) :: (readWords rest (readBack pool a)).words
          uncorrectable :=
            decide ((pool.lookup a).classify = .uncorrectable) || (readWords rest (readBack pool a)).uncorrectable
          pool := (readWords rest (readBack pool a)).pool } := by
  rw [readWords]
  unfold readable readBack
  cases h : (pool.lookup a).classify with
  | clean => simp
  | correctable => simp
  | uncorrectable => simp

/-- What a READ returns, and what it leaves at every address (R17, R90). -/
theorem readWords_eq {l : List Nat} {pool : Pool} (hl : l.Nodup) (hp : Rising pool) :
    (readWords l pool).words = l.map (fun a => readable (pool.lookup a))
      ∧ ((readWords l pool).uncorrectable = true ↔ ∃ a ∈ l, (pool.lookup a).classify = .uncorrectable)
      ∧ ∀ a, (readWords l pool).pool.lookup a
          = if (pool.lookup a).classify = .correctable ∧ a ∈ l then StoredWord.fresh (pool.lookup a).corrected
            else pool.lookup a := by
  induction l generalizing pool with
  | nil => simp [readWords]
  | cons b rest ih =>
    obtain ⟨hb, hrest⟩ := List.nodup_cons.mp hl
    obtain ⟨words, uncorrectable, lookup⟩ := ih hrest (rising_readBack hp b)
    have other : ∀ a, a ≠ b → (readBack pool b).lookup a = pool.lookup a := fun a ha => by
      rw [readBack_lookup hp, if_neg fun h => ha h.2]
    have others : ∀ a ∈ rest, (readBack pool b).lookup a = pool.lookup a := fun a ha =>
      other a fun hab => hb (hab ▸ ha)
    rw [readWords_cons]
    refine ⟨?_, ?_, fun a => ?_⟩
    · rw [List.map_cons, words, List.map_congr_left fun a ha => congrArg readable (others a ha)]
    · rw [Bool.or_eq_true, decide_eq_true_iff, uncorrectable, List.exists_mem_cons_iff]
      exact or_congr_right (exists_congr fun a => and_congr_right fun ha => by rw [others a ha])
    · rw [lookup]
      by_cases ha : a = b
      · subst ha
        rw [if_neg fun h => hb h.2, readBack_lookup hp]
        simp only [and_true, List.mem_cons, true_or]
      · rw [other a ha]
        simp only [List.mem_cons, ha, false_or]

/-! ## WRITE and READ taken (R47, R90) -/

theorem storedByte_of_address {pool : Pool} {m : Message} {b a : Nat} (h : byteAddress m b = some a) :
    storedByte pool m b = some (wordByte (pool.lookup a).data (b % 4)) := by
  rw [storedByte, h]
  rfl

/-- A byte of a written word. -/
theorem wordByte_written (o : Nat) (data : List Byte) (b : Nat) (x : Word) :
    wordByte (StoredWord.fresh (mergedWord o data (b / 4) x)).data (b % 4) = mergedByte o data b (wordByte x (b % 4)) := by
  refine (wordByte_mergedWord o data (b / 4) x (Nat.mod_lt _ (by decide))).trans ?_
  rw [Nat.div_add_mod]

/-- Settles O32: the words that WRITE touches, byte by byte, and the words that it does not. -/
theorem writeStoresBytes : Obligations.WriteStoresBytes := by
  intro p s h off data m hmin hmax hlen hm hchain hnodup hwf ha hs hn hp
  obtain ⟨claim, hclaim⟩ := exists_renewLease s p
  obtain ⟨l, hl⟩ := Steps.wordAddresses_of_range (chain := m.chain) (offset := off.toNat) (count := data.length)
    (by omega) (by omega)
  have own : State.sourceSide { s with claim := claim } p h = .ok (.opened m) :=
    sourceSide_own (s := { s with claim := claim }) hn rfl hp
  have stored := ((writeBody_eq (s := { s with claim := claim }) hs off data).2 (by omega)).2.2 m own
  rw [exec_write_taken hmin hmax ha, hclaim, stored.2 l hlen hl]
  obtain ⟨other, touched⟩ := writeWords_lookup off.toNat data (firstWord off.toNat) (wordAddresses_nodup hnodup hl) hwf.1
  have written : ∀ b a, byteAddress m b = some a → off.toNat / 4 ≤ b / 4 →
      b / 4 ≤ (off.toNat + data.length - 1) / 4 →
      (writeWords off.toNat data (firstWord off.toNat) l s.pool).lookup a
        = StoredWord.fresh (mergedWord off.toNat data (b / 4) (readable (s.pool.lookup a))) := fun b a hb hlo hhi => by
    rw [touched _ a ((addresses_getElem? hl hlo hhi).trans hb), firstWord, Nat.add_sub_cancel' hlo]
  refine ⟨_, rfl, rfl, fun q => ?_, fun j hj => ?_, fun b a hb hlo hhi => ⟨?_, fun hout => ?_⟩, fun a hno => ?_⟩
  · rw [State.answer_port]
    rfl
  · have hcell : (off.toNat + j) / 32 < m.chain.length := by omega
    have hb : byteAddress m (off.toNat + j) = some _ := congrArg (Option.map _) (List.getElem?_eq_getElem hcell)
    rw [storedByte_of_address hb, State.answer_pool, written _ _ hb (by omega) (by omega), wordByte_written,
      mergedByte_inside hj]
  · rw [State.answer_pool, written b a hb hlo hhi]
    exact classify_fresh _
  · rw [storedByte_of_address hb, State.answer_pool, written b a hb hlo hhi, wordByte_written, mergedByte_outside hout]
  · refine other a fun ha => ?_
    obtain ⟨j, hj, hja⟩ := (mem_addresses_iff hl hmin).mp ha
    exact hno (off.toNat + j) (by omega) (by omega) hja

/-- The bytes that a READ returns (R90). -/
theorem payloadBytes_getElem? {words : List Word} {o n j : Nat} (hj : j < n) :
    (payloadBytes words o n)[j]? = (words[(o + j) / 4 - o / 4]?).map fun w => wordByte w ((o + j) % 4) := by
  have hdiv : (o % 4 + j) / 4 = (o + j) / 4 - o / 4 := by omega
  have hmod : (o % 4 + j) % 4 = (o + j) % 4 := by omega
  rw [payloadBytes, List.getElem?_take_of_lt hj, List.getElem?_drop, flatMap_wordBytes_getElem?, hdiv, hmod]

theorem payloadBytes_length {words : List Word} {o n : Nat} (hn : 1 ≤ n) (hw : words.length = wordCount o n) :
    (payloadBytes words o n).length = n := by
  rw [payloadBytes, List.length_take, List.length_drop, flatMap_wordBytes_length, hw, wordCount]
  omega

section ReadRange

variable {m : Message} {o n : Nat} {l : List Nat} {pool : Pool}

/-- The payload of a READ, byte by byte (R90). -/
theorem readPayload_eq (hl : wordAddresses m.chain (firstWord o) (wordCount o n) = some l) (hn : 1 ≤ n)
    (hwords : (readWords l pool).words = l.map fun a => readable (pool.lookup a)) :
    (payloadBytes (readWords l pool).words o n).length = n
      ∧ ∀ (j a : Nat) (hj : j < (payloadBytes (readWords l pool).words o n).length), byteAddress m (o + j) = some a →
        (payloadBytes (readWords l pool).words o n)[j] = wordByte (readable (pool.lookup a)) ((o + j) % 4) := by
  have length : (payloadBytes (readWords l pool).words o n).length = n :=
    payloadBytes_length hn (by rw [hwords, List.length_map, (wordAddresses_getElem? hl).1])
  refine ⟨length, fun j a hj ha => (List.getElem_eq_iff hj).mpr ?_⟩
  have place : l[(o + j) / 4 - o / 4]? = some a := (addresses_getElem? hl (by omega) (by omega)).trans ha
  rw [payloadBytes_getElem? (length ▸ hj), hwords, List.getElem?_map, place]
  rfl

/-- The words that a READ takes are those of its bytes (R16). -/
theorem exists_address_iff (hl : wordAddresses m.chain (firstWord o) (wordCount o n) = some l) (hn : 1 ≤ n)
    (P : Nat → Prop) : (∃ a ∈ l, P a) ↔ ∃ j a : Nat, j < n ∧ byteAddress m (o + j) = some a ∧ P a := by
  simp only [mem_addresses_iff hl hn]
  exact ⟨fun ⟨a, ⟨j, hj, ha⟩, hP⟩ => ⟨j, a, hj, ha, hP⟩, fun ⟨j, a, hj, ha, hP⟩ => ⟨a, ⟨j, hj, ha⟩, hP⟩⟩

end ReadRange

/-- Settles O40: the words that READ takes, by their classes. -/
theorem readReturnsBytes : Obligations.ReadReturnsBytes := by
  intro p s off count l e rest m d bad hmin hmax hlen hm hchain hnodup hwf ha hs he hn hfirst hbad
  obtain ⟨claim, hclaim⟩ := exists_renewLease s p
  obtain ⟨addresses, hl⟩ := Steps.wordAddresses_of_range (chain := m.chain) (offset := off.toNat) (count := count.toNat)
    (by omega) (by omega)
  have front : ((s.queue p l).entries.head?.map Entry.handle) = some e.handle := by rw [he]; rfl
  obtain ⟨-, found⟩ := ((Consuming.readBody_eq (s := { s with claim := claim }) hs e.handle off count).2 hmin hmax).2
    (by omega)
  obtain ⟨-, taken⟩ := found l _ (Consuming.headLane_some (s := { s with claim := claim }) front hfirst)
    (head_of_names (s := { s with claim := claim }) he hn)
  obtain ⟨words, uncorrectable, lookup⟩ := readWords_eq (wordAddresses_nodup hnodup hl) hwf.1
  obtain ⟨length, bytes⟩ := readPayload_eq (pool := s.pool) hl hmin words
  have isBad : (readWords addresses s.pool).uncorrectable = true ↔ bad := by
    rw [uncorrectable, hbad, exists_address_iff hl hmin fun a => (s.pool.lookup a).classify = .uncorrectable]
  have pool : ∀ a : Nat,
      ((s.pool.lookup a).classify = .correctable ∧ (∃ j, j < count.toNat ∧ byteAddress m (off.toNat + j) = some a) →
        (readWords addresses s.pool).pool.lookup a = StoredWord.fresh (s.pool.lookup a).corrected)
      ∧ (¬((s.pool.lookup a).classify = .correctable
            ∧ ∃ j, j < count.toNat ∧ byteAddress m (off.toNat + j) = some a) →
          (readWords addresses s.pool).pool.lookup a = s.pool.lookup a) := fun a => by
    rw [lookup, ← mem_addresses_iff hl hmin]
    exact ⟨fun hc => if_pos hc, fun hc => if_neg hc⟩
  rw [Consuming.exec_read_taken ha, hclaim, taken addresses hlen hl, readTaken]
  by_cases hb : bad
  · rw [if_pos (isBad.mpr hb)]
    refine ⟨_, _, rfl, length, bytes, rfl, pool, fun _ => ⟨fun q => ?_, tableChangesAt_setDesc hn _⟩, fun h => absurd hb h⟩
    rw [State.answer_port]
    rfl
  · rw [if_neg (mt isBad.mp hb)]
    refine ⟨_, _, rfl, length, bytes, rfl, pool, fun h => absurd h hb, fun _ => ⟨fun q => ?_, rfl⟩⟩
    rw [State.answer_port]
    rfl

end MessageBytes
end Sys2Proof
end
